-- ==== Sys2Proof/Word.lean ====
section
/-!
DEFINITION. The word types of HUFFDEC: what the spec treats as bits, at the widths it gives (R5, R7, R8, R90).
Where a width is an instance parameter, the vector has the greatest legal width (log entry 12).
-/

namespace Sys2Proof

/-- A register, or the data of one bus access (R72). -/
abbrev Word := BitVec 32

/-- One byte of the raw stream (R46). -/
abbrev Byte := BitVec 8

/-- The byte offset of a register in the 128-byte window (R71). -/
abbrev Offset := BitVec 7

/-- The 40-bit transaction word of R90. -/
abbrev TWord := BitVec 40

/-- A symbol identifier: `SYM_W` bits, held in 16 (R5). -/
abbrev Symbol := BitVec 16

/-- A bit sequence in stream order, first bit first (R8). -/
abbrev Bits := List Bool

end Sys2Proof
end

