-- ==== Sys2Proof/Config.lean ====
section
/-!
DEFINITION. What an instance of HUFFDEC fixes (R5), and the values the spec leaves free.
-/

namespace Sys2Proof

/-- The parameters of an instance (R5). They are constants of the machine: no step changes them. -/
structure Params where
  /-- `SYM_W`: width of a symbol identifier. -/
  symW : Nat
  /-- `L_MAX`: the longest code length the table can hold. -/
  lMax : Nat
  /-- `CT_IDX_W`: width of a table index. -/
  ctIdxW : Nat
  /-- `OUT_DEPTH`: capacity of the output FIFO. -/
  outDepth : Nat
  /-- `BUF_BITS`: capacity of the bit buffer. -/
  bufBits : Nat
  /-- `MAX_FRAME_BYTES`: the most raw bytes a frame may carry, header included. -/
  maxFrameBytes : Nat
  /-- `BASE`: the bus address of offset 0. -/
  base : Nat
  deriving DecidableEq, Repr

/-- `CT_ENTRIES`, the capacity of the code table (R5). -/
def Params.ctEntries (p : Params) : Nat := 2 ^ p.ctIdxW

/-- The legal ranges of R5. -/
abbrev Params.Legal (p : Params) : Prop :=
  (1 ≤ p.symW ∧ p.symW ≤ 16) ∧ (1 ≤ p.lMax ∧ p.lMax ≤ 32) ∧ p.ctIdxW ≤ 12 ∧
  (1 ≤ p.outDepth ∧ p.outDepth ≤ 255) ∧ (263 + p.lMax ≤ p.bufBits ∧ p.bufBits ≤ 1023) ∧
  (1 ≤ p.maxFrameBytes ∧ p.maxFrameBytes ≤ 2 ^ 29 - 1) ∧ p.base % 128 = 0

/-- The defaults of R5. DESIGN CHOICE (log entry 2): R5 leaves `BASE` open, and 0 stands here. -/
def Params.defaults : Params where
  symW := 16
  lMax := 32
  ctIdxW := 8
  outDepth := 16
  bufBits := 512
  maxFrameBytes := 2 ^ 29 - 1
  base := 0

/-- Free value: the read data of a transaction issued while `rst` is asserted (item I13 of
93_implementation_defined.md; log entry 10), applied to the count of free values drawn so far. -/
opaque Config.freeReadData : Nat → Word

/-- Free value: whether such a transaction is answered OKAY (log entry 10). -/
opaque Config.freeOkay : Nat → Bool

/-- Free value: what the variables hold after a power-down without reset (R295; item I9 of
93_implementation_defined.md; log entry 11), applied to the count of free values drawn so far, the number of the
variable and an index within it. -/
opaque Config.freeVariable : Nat → Nat → Nat → Nat

end Sys2Proof
end

