-- ==== Sys2Proof/Syntax.lean ====
section
/-!
DEFINITION. The instructions of HUFFDEC: one constructor per row of spec/opcode_table.json, in the table's order
(R93, R94). An instruction is one host bus transaction (R90).
-/

namespace Sys2Proof

/-- The direction of a transaction: the field `W` of R90. -/
inductive Dir where
  | read
  | write
  deriving DecidableEq, Repr

/-- One host operation. A write carries its 32 data bits whole: which of them a register takes is the meaning's
concern (R92). A read carries none (R91). A row that stands for several offsets carries the offset, and a row
that stands for both directions carries the direction. -/
inductive Instr where
  /-- RD_ID (R250). -/
  | rdId
  /-- RD_PARAM (R251). -/
  | rdParam
  /-- RD_CTRL (R186). -/
  | rdCtrl
  /-- RD_STATUS (R252). -/
  | rdStatus
  /-- RD_FLAGS (R253). -/
  | rdFlags
  /-- RD_IRQ_EN (R255). -/
  | rdIrqEn
  /-- RD_IRQ_STAT (R257). -/
  | rdIrqStat
  /-- RD_ERR_CODE (R259). -/
  | rdErrCode
  /-- RD_ERR_POS (R260). -/
  | rdErrPos
  /-- RD_PAD (R261). -/
  | rdPad
  /-- RD_BYTE_COUNT (R262). -/
  | rdByteCount
  /-- RD_BIT_POS (R263). -/
  | rdBitPos
  /-- RD_SYM_COUNT (R265). -/
  | rdSymCount
  /-- RD_CT_INDEX (R157). -/
  | rdCtIndex
  /-- RD_CT_CODE (R158). -/
  | rdCtCode
  /-- RD_CT_ENTRY (R155). -/
  | rdCtEntry
  /-- RD_CT_RCODE (R156). -/
  | rdCtRcode
  /-- RD_CT_COUNT (R160). -/
  | rdCtCount
  /-- RD_DATA_IN (R206). -/
  | rdDataIn
  /-- RD_DATA_OUT (R205). -/
  | rdDataOut
  /-- WR_RO_ID (R264). -/
  | wrRoId (data : Word)
  /-- WR_RO_PARAM (R264). -/
  | wrRoParam (data : Word)
  /-- WR_CTRL (R180). -/
  | wrCtrl (data : Word)
  /-- WR_RO_STATUS (R264). -/
  | wrRoStatus (data : Word)
  /-- WR_FLAGS (R254). -/
  | wrFlags (data : Word)
  /-- WR_IRQ_EN (R256). -/
  | wrIrqEn (data : Word)
  /-- WR_IRQ_STAT (R258). -/
  | wrIrqStat (data : Word)
  /-- WR_RO_ERR_CODE (R264). -/
  | wrRoErrCode (data : Word)
  /-- WR_RO_ERR_POS (R264). -/
  | wrRoErrPos (data : Word)
  /-- WR_RO_PAD (R264). -/
  | wrRoPad (data : Word)
  /-- WR_RO_BYTE_COUNT (R264). -/
  | wrRoByteCount (data : Word)
  /-- WR_RO_BIT_POS (R264). -/
  | wrRoBitPos (data : Word)
  /-- WR_RO_SYM_COUNT (R264). -/
  | wrRoSymCount (data : Word)
  /-- WR_CT_INDEX (R151). -/
  | wrCtIndex (data : Word)
  /-- WR_CT_CODE (R159). -/
  | wrCtCode (data : Word)
  /-- WR_CT_ENTRY (R152). -/
  | wrCtEntry (data : Word)
  /-- WR_RO_CT_RCODE (R264). -/
  | wrRoCtRcode (data : Word)
  /-- WR_RO_CT_COUNT (R264). -/
  | wrRoCtCount (data : Word)
  /-- WR_DATA_IN (R200). -/
  | wrDataIn (data : Word)
  /-- WR_RO_DATA_OUT (R264). -/
  | wrRoDataOut (data : Word)
  /-- RD_RSVD_50_5C (R97). -/
  | rdRsvd505c (off : Offset)
  /-- RD_RSVD_60_7C (R97). -/
  | rdRsvd607c (off : Offset)
  /-- WR_RSVD_50_5C (R97). -/
  | wrRsvd505c (off : Offset) (data : Word)
  /-- WR_RSVD_60_7C (R97). -/
  | wrRsvd607c (off : Offset) (data : Word)
  /-- BUSERR_MISALIGNED_1 (R73). -/
  | buserrMisaligned1 (dir : Dir) (off : Offset) (data : Word)
  /-- BUSERR_MISALIGNED_2 (R73). -/
  | buserrMisaligned2 (dir : Dir) (off : Offset) (data : Word)
  /-- BUSERR_MISALIGNED_3 (R73). -/
  | buserrMisaligned3 (dir : Dir) (off : Offset) (data : Word)
  deriving DecidableEq, Repr

/-- The row of spec/opcode_table.json an instruction belongs to. -/
def Instr.mnemonic : Instr → String
  | .rdId => "RD_ID"
  | .rdParam => "RD_PARAM"
  | .rdCtrl => "RD_CTRL"
  | .rdStatus => "RD_STATUS"
  | .rdFlags => "RD_FLAGS"
  | .rdIrqEn => "RD_IRQ_EN"
  | .rdIrqStat => "RD_IRQ_STAT"
  | .rdErrCode => "RD_ERR_CODE"
  | .rdErrPos => "RD_ERR_POS"
  | .rdPad => "RD_PAD"
  | .rdByteCount => "RD_BYTE_COUNT"
  | .rdBitPos => "RD_BIT_POS"
  | .rdSymCount => "RD_SYM_COUNT"
  | .rdCtIndex => "RD_CT_INDEX"
  | .rdCtCode => "RD_CT_CODE"
  | .rdCtEntry => "RD_CT_ENTRY"
  | .rdCtRcode => "RD_CT_RCODE"
  | .rdCtCount => "RD_CT_COUNT"
  | .rdDataIn => "RD_DATA_IN"
  | .rdDataOut => "RD_DATA_OUT"
  | .wrRoId .. => "WR_RO_ID"
  | .wrRoParam .. => "WR_RO_PARAM"
  | .wrCtrl .. => "WR_CTRL"
  | .wrRoStatus .. => "WR_RO_STATUS"
  | .wrFlags .. => "WR_FLAGS"
  | .wrIrqEn .. => "WR_IRQ_EN"
  | .wrIrqStat .. => "WR_IRQ_STAT"
  | .wrRoErrCode .. => "WR_RO_ERR_CODE"
  | .wrRoErrPos .. => "WR_RO_ERR_POS"
  | .wrRoPad .. => "WR_RO_PAD"
  | .wrRoByteCount .. => "WR_RO_BYTE_COUNT"
  | .wrRoBitPos .. => "WR_RO_BIT_POS"
  | .wrRoSymCount .. => "WR_RO_SYM_COUNT"
  | .wrCtIndex .. => "WR_CT_INDEX"
  | .wrCtCode .. => "WR_CT_CODE"
  | .wrCtEntry .. => "WR_CT_ENTRY"
  | .wrRoCtRcode .. => "WR_RO_CT_RCODE"
  | .wrRoCtCount .. => "WR_RO_CT_COUNT"
  | .wrDataIn .. => "WR_DATA_IN"
  | .wrRoDataOut .. => "WR_RO_DATA_OUT"
  | .rdRsvd505c .. => "RD_RSVD_50_5C"
  | .rdRsvd607c .. => "RD_RSVD_60_7C"
  | .wrRsvd505c .. => "WR_RSVD_50_5C"
  | .wrRsvd607c .. => "WR_RSVD_60_7C"
  | .buserrMisaligned1 .. => "BUSERR_MISALIGNED_1"
  | .buserrMisaligned2 .. => "BUSERR_MISALIGNED_2"
  | .buserrMisaligned3 .. => "BUSERR_MISALIGNED_3"

end Sys2Proof
end

