-- ==== Sys2Proof/WellFormed.lean ====
section
/-!
DEFINITION. Which instructions are well formed: the offset a row carries is one of the row's offsets (R93, R94),
and a read carries no data (R91).
-/

namespace Sys2Proof

/-- `off` is one of 0x50, 0x54, 0x58, 0x5C (`OFF = 0b101xx00`, R94). -/
def Offset.reserved5 (off : Offset) : Bool := off &&& 0x73#7 == 0x50#7

/-- `off` is one of 0x60, 0x64, ..., 0x7C (`OFF = 0b11xxx00`, R94). -/
def Offset.reserved6 (off : Offset) : Bool := off &&& 0x63#7 == 0x60#7

/-- `OFF[1:0] = k` (R91, R94). -/
def Offset.misaligned (k : BitVec 7) (off : Offset) : Bool := off &&& 3#7 == k

/-- The data of a read is 0 (R90, R91). -/
def Dir.dataOk (dir : Dir) (data : Word) : Bool :=
  match dir with
  | .read => data == 0#32
  | .write => true

/-- The instruction is one that a transaction word can express. -/
def Instr.wellFormed : Instr → Bool
  | .rdId => true
  | .rdParam => true
  | .rdCtrl => true
  | .rdStatus => true
  | .rdFlags => true
  | .rdIrqEn => true
  | .rdIrqStat => true
  | .rdErrCode => true
  | .rdErrPos => true
  | .rdPad => true
  | .rdByteCount => true
  | .rdBitPos => true
  | .rdSymCount => true
  | .rdCtIndex => true
  | .rdCtCode => true
  | .rdCtEntry => true
  | .rdCtRcode => true
  | .rdCtCount => true
  | .rdDataIn => true
  | .rdDataOut => true
  | .wrRoId _ => true
  | .wrRoParam _ => true
  | .wrCtrl _ => true
  | .wrRoStatus _ => true
  | .wrFlags _ => true
  | .wrIrqEn _ => true
  | .wrIrqStat _ => true
  | .wrRoErrCode _ => true
  | .wrRoErrPos _ => true
  | .wrRoPad _ => true
  | .wrRoByteCount _ => true
  | .wrRoBitPos _ => true
  | .wrRoSymCount _ => true
  | .wrCtIndex _ => true
  | .wrCtCode _ => true
  | .wrCtEntry _ => true
  | .wrRoCtRcode _ => true
  | .wrRoCtCount _ => true
  | .wrDataIn _ => true
  | .wrRoDataOut _ => true
  | .rdRsvd505c off => Offset.reserved5 off
  | .rdRsvd607c off => Offset.reserved6 off
  | .wrRsvd505c off _ => Offset.reserved5 off
  | .wrRsvd607c off _ => Offset.reserved6 off
  | .buserrMisaligned1 dir off data => Offset.misaligned 1#7 off && dir.dataOk data
  | .buserrMisaligned2 dir off data => Offset.misaligned 2#7 off && dir.dataOk data
  | .buserrMisaligned3 dir off data => Offset.misaligned 3#7 off && dir.dataOk data

end Sys2Proof
end

