-- ==== Sys2Proof/Decode.lean ====
section
/-!
DEFINITION. The decoder of transaction words (R90 to R94) and, after it, the encoder.
-/

namespace Sys2Proof

/-! ## The fields of a transaction word (R90) -/

/-- The field `W`, bit 39. -/
def twDir (t : TWord) : Dir := if t.getLsbD 39 then .write else .read

/-- The field `OFF`, bits 38:32. -/
def twOff (t : TWord) : Offset := t.extractLsb' 32 7

/-- The field `DATA`, bits 31:0. -/
def twData (t : TWord) : Word := t.extractLsb' 0 32

/-- The value of the field `W` (R90: 1 = write, 0 = read). -/
def Dir.wBit (dir : Dir) : BitVec 1 :=
  match dir with
  | .read => 0#1
  | .write => 1#1

/-- The transaction word of its three fields. -/
def mkTWord (dir : Dir) (off : Offset) (data : Word) : TWord := dir.wBit ++ off ++ data

/-! ## Decoding -/

/-- The data an operation carries: a read has none (R91). DEDUCED (log entry 6): data bits set on a read are ignored. -/
def Dir.dataOf (dir : Dir) (data : Word) : Word :=
  match dir with
  | .read => 0#32
  | .write => data

/-- The read that the word index `off / 4` selects: the RD column of R93. -/
def selectRead (off : Offset) : Instr :=
  match off.toNat / 4 with
  | 0 => .rdId
  | 1 => .rdParam
  | 2 => .rdCtrl
  | 3 => .rdStatus
  | 4 => .rdFlags
  | 5 => .rdIrqEn
  | 6 => .rdIrqStat
  | 7 => .rdErrCode
  | 8 => .rdErrPos
  | 9 => .rdPad
  | 10 => .rdByteCount
  | 11 => .rdBitPos
  | 12 => .rdSymCount
  | 13 => .rdCtIndex
  | 14 => .rdCtCode
  | 15 => .rdCtEntry
  | 16 => .rdCtRcode
  | 17 => .rdCtCount
  | 18 => .rdDataIn
  | 19 => .rdDataOut
  | 20 | 21 | 22 | 23 => .rdRsvd505c off
  | _ => .rdRsvd607c off

/-- The write that the word index `off / 4` selects: the WR column of R93. -/
def selectWrite (off : Offset) (data : Word) : Instr :=
  match off.toNat / 4 with
  | 0 => .wrRoId data
  | 1 => .wrRoParam data
  | 2 => .wrCtrl data
  | 3 => .wrRoStatus data
  | 4 => .wrFlags data
  | 5 => .wrIrqEn data
  | 6 => .wrIrqStat data
  | 7 => .wrRoErrCode data
  | 8 => .wrRoErrPos data
  | 9 => .wrRoPad data
  | 10 => .wrRoByteCount data
  | 11 => .wrRoBitPos data
  | 12 => .wrRoSymCount data
  | 13 => .wrCtIndex data
  | 14 => .wrCtCode data
  | 15 => .wrCtEntry data
  | 16 => .wrRoCtRcode data
  | 17 => .wrRoCtCount data
  | 18 => .wrDataIn data
  | 19 => .wrRoDataOut data
  | 20 | 21 | 22 | 23 => .wrRsvd505c off data
  | _ => .wrRsvd607c off data

/-- The operation that `(W, OFF)` selects (R93), with its data. -/
def select (dir : Dir) (off : Offset) (data : Word) : Instr :=
  match off.toNat % 4 with
  | 0 =>
    match dir with
    | .read => selectRead off
    | .write => selectWrite off data
  | 1 => .buserrMisaligned1 dir off (dir.dataOf data)
  | 2 => .buserrMisaligned2 dir off (dir.dataOf data)
  | _ => .buserrMisaligned3 dir off (dir.dataOf data)

/-- The instruction of a transaction word. Every word has one (R94), so no 40-bit word is rejected. -/
def decode (t : TWord) : Instr := select (twDir t) (twOff t) (twData t)

/-- Why a number is no transaction word. -/
inductive DecodeReject where
  /-- More than the 40 bits of R90 were given. -/
  | tooWide
  /-- A bit is set at or above the width given. -/
  | strayBits
  deriving DecidableEq, Repr

/-- Decoding of any number of `nbits` bits, rejecting by name what is no transaction word (log entry 9). -/
def decodeBits (nbits w : Nat) : Except DecodeReject Instr :=
  if 40 < nbits then .error .tooWide
  else if 2 ^ nbits ≤ w then .error .strayBits
  else .ok (decode (BitVec.ofNat 40 w))

/-- The instruction the decoder reads from a word numbered as spec/opcode_table.json numbers it. -/
def decodeTableWord (nbits w : Nat) : Option Instr :=
  match decodeBits nbits w with
  | .ok i => some i
  | .error _ => none

/-! ## Encoding -/

/-- The direction of an instruction (R93). -/
def Instr.dir : Instr → Dir
  | .rdId => .read
  | .rdParam => .read
  | .rdCtrl => .read
  | .rdStatus => .read
  | .rdFlags => .read
  | .rdIrqEn => .read
  | .rdIrqStat => .read
  | .rdErrCode => .read
  | .rdErrPos => .read
  | .rdPad => .read
  | .rdByteCount => .read
  | .rdBitPos => .read
  | .rdSymCount => .read
  | .rdCtIndex => .read
  | .rdCtCode => .read
  | .rdCtEntry => .read
  | .rdCtRcode => .read
  | .rdCtCount => .read
  | .rdDataIn => .read
  | .rdDataOut => .read
  | .wrRoId _ => .write
  | .wrRoParam _ => .write
  | .wrCtrl _ => .write
  | .wrRoStatus _ => .write
  | .wrFlags _ => .write
  | .wrIrqEn _ => .write
  | .wrIrqStat _ => .write
  | .wrRoErrCode _ => .write
  | .wrRoErrPos _ => .write
  | .wrRoPad _ => .write
  | .wrRoByteCount _ => .write
  | .wrRoBitPos _ => .write
  | .wrRoSymCount _ => .write
  | .wrCtIndex _ => .write
  | .wrCtCode _ => .write
  | .wrCtEntry _ => .write
  | .wrRoCtRcode _ => .write
  | .wrRoCtCount _ => .write
  | .wrDataIn _ => .write
  | .wrRoDataOut _ => .write
  | .rdRsvd505c _ => .read
  | .rdRsvd607c _ => .read
  | .wrRsvd505c _ _ => .write
  | .wrRsvd607c _ _ => .write
  | .buserrMisaligned1 dir _ _ => dir
  | .buserrMisaligned2 dir _ _ => dir
  | .buserrMisaligned3 dir _ _ => dir

/-- The offset of an instruction (R93). -/
def Instr.off : Instr → Offset
  | .rdId => 0x00#7
  | .rdParam => 0x04#7
  | .rdCtrl => 0x08#7
  | .rdStatus => 0x0C#7
  | .rdFlags => 0x10#7
  | .rdIrqEn => 0x14#7
  | .rdIrqStat => 0x18#7
  | .rdErrCode => 0x1C#7
  | .rdErrPos => 0x20#7
  | .rdPad => 0x24#7
  | .rdByteCount => 0x28#7
  | .rdBitPos => 0x2C#7
  | .rdSymCount => 0x30#7
  | .rdCtIndex => 0x34#7
  | .rdCtCode => 0x38#7
  | .rdCtEntry => 0x3C#7
  | .rdCtRcode => 0x40#7
  | .rdCtCount => 0x44#7
  | .rdDataIn => 0x48#7
  | .rdDataOut => 0x4C#7
  | .wrRoId _ => 0x00#7
  | .wrRoParam _ => 0x04#7
  | .wrCtrl _ => 0x08#7
  | .wrRoStatus _ => 0x0C#7
  | .wrFlags _ => 0x10#7
  | .wrIrqEn _ => 0x14#7
  | .wrIrqStat _ => 0x18#7
  | .wrRoErrCode _ => 0x1C#7
  | .wrRoErrPos _ => 0x20#7
  | .wrRoPad _ => 0x24#7
  | .wrRoByteCount _ => 0x28#7
  | .wrRoBitPos _ => 0x2C#7
  | .wrRoSymCount _ => 0x30#7
  | .wrCtIndex _ => 0x34#7
  | .wrCtCode _ => 0x38#7
  | .wrCtEntry _ => 0x3C#7
  | .wrRoCtRcode _ => 0x40#7
  | .wrRoCtCount _ => 0x44#7
  | .wrDataIn _ => 0x48#7
  | .wrRoDataOut _ => 0x4C#7
  | .rdRsvd505c off => off
  | .rdRsvd607c off => off
  | .wrRsvd505c off _ => off
  | .wrRsvd607c off _ => off
  | .buserrMisaligned1 _ off _ => off
  | .buserrMisaligned2 _ off _ => off
  | .buserrMisaligned3 _ off _ => off

/-- The data of an instruction; 0 for a read (R90). -/
def Instr.data : Instr → Word
  | .rdId => 0#32
  | .rdParam => 0#32
  | .rdCtrl => 0#32
  | .rdStatus => 0#32
  | .rdFlags => 0#32
  | .rdIrqEn => 0#32
  | .rdIrqStat => 0#32
  | .rdErrCode => 0#32
  | .rdErrPos => 0#32
  | .rdPad => 0#32
  | .rdByteCount => 0#32
  | .rdBitPos => 0#32
  | .rdSymCount => 0#32
  | .rdCtIndex => 0#32
  | .rdCtCode => 0#32
  | .rdCtEntry => 0#32
  | .rdCtRcode => 0#32
  | .rdCtCount => 0#32
  | .rdDataIn => 0#32
  | .rdDataOut => 0#32
  | .wrRoId data => data
  | .wrRoParam data => data
  | .wrCtrl data => data
  | .wrRoStatus data => data
  | .wrFlags data => data
  | .wrIrqEn data => data
  | .wrIrqStat data => data
  | .wrRoErrCode data => data
  | .wrRoErrPos data => data
  | .wrRoPad data => data
  | .wrRoByteCount data => data
  | .wrRoBitPos data => data
  | .wrRoSymCount data => data
  | .wrCtIndex data => data
  | .wrCtCode data => data
  | .wrCtEntry data => data
  | .wrRoCtRcode data => data
  | .wrRoCtCount data => data
  | .wrDataIn data => data
  | .wrRoDataOut data => data
  | .rdRsvd505c _ => 0#32
  | .rdRsvd607c _ => 0#32
  | .wrRsvd505c _ data => data
  | .wrRsvd607c _ data => data
  | .buserrMisaligned1 _ _ data => data
  | .buserrMisaligned2 _ _ data => data
  | .buserrMisaligned3 _ _ data => data

/-- The transaction word of an instruction (R90, R93). -/
def encode (i : Instr) : TWord := mkTWord i.dir i.off i.data

/-! ## The opcode table as rows (R94) -/

/-- One row of spec/opcode_table.json. -/
structure OpcodeRow where
  mnemonic : String
  bits : TWord
  mask : TWord
  deriving DecidableEq, Repr

/-- The row applies to `t`: `(t & mask) = match` (R94). -/
def OpcodeRow.applies (r : OpcodeRow) (t : TWord) : Bool := t &&& r.mask == r.bits

/-- The read rows of the registers. -/
def readRows : List OpcodeRow := [
  ⟨"RD_ID", 0x0000000000#40, 0xFF00000000#40⟩,
  ⟨"RD_PARAM", 0x0400000000#40, 0xFF00000000#40⟩,
  ⟨"RD_CTRL", 0x0800000000#40, 0xFF00000000#40⟩,
  ⟨"RD_STATUS", 0x0C00000000#40, 0xFF00000000#40⟩,
  ⟨"RD_FLAGS", 0x1000000000#40, 0xFF00000000#40⟩,
  ⟨"RD_IRQ_EN", 0x1400000000#40, 0xFF00000000#40⟩,
  ⟨"RD_IRQ_STAT", 0x1800000000#40, 0xFF00000000#40⟩,
  ⟨"RD_ERR_CODE", 0x1C00000000#40, 0xFF00000000#40⟩,
  ⟨"RD_ERR_POS", 0x2000000000#40, 0xFF00000000#40⟩,
  ⟨"RD_PAD", 0x2400000000#40, 0xFF00000000#40⟩,
  ⟨"RD_BYTE_COUNT", 0x2800000000#40, 0xFF00000000#40⟩,
  ⟨"RD_BIT_POS", 0x2C00000000#40, 0xFF00000000#40⟩,
  ⟨"RD_SYM_COUNT", 0x3000000000#40, 0xFF00000000#40⟩,
  ⟨"RD_CT_INDEX", 0x3400000000#40, 0xFF00000000#40⟩,
  ⟨"RD_CT_CODE", 0x3800000000#40, 0xFF00000000#40⟩,
  ⟨"RD_CT_ENTRY", 0x3C00000000#40, 0xFF00000000#40⟩,
  ⟨"RD_CT_RCODE", 0x4000000000#40, 0xFF00000000#40⟩,
  ⟨"RD_CT_COUNT", 0x4400000000#40, 0xFF00000000#40⟩,
  ⟨"RD_DATA_IN", 0x4800000000#40, 0xFF00000000#40⟩,
  ⟨"RD_DATA_OUT", 0x4C00000000#40, 0xFF00000000#40⟩]

/-- The write rows of the registers. -/
def writeRows : List OpcodeRow := [
  ⟨"WR_RO_ID", 0x8000000000#40, 0xFF00000000#40⟩,
  ⟨"WR_RO_PARAM", 0x8400000000#40, 0xFF00000000#40⟩,
  ⟨"WR_CTRL", 0x8800000000#40, 0xFF00000000#40⟩,
  ⟨"WR_RO_STATUS", 0x8C00000000#40, 0xFF00000000#40⟩,
  ⟨"WR_FLAGS", 0x9000000000#40, 0xFF00000000#40⟩,
  ⟨"WR_IRQ_EN", 0x9400000000#40, 0xFF00000000#40⟩,
  ⟨"WR_IRQ_STAT", 0x9800000000#40, 0xFF00000000#40⟩,
  ⟨"WR_RO_ERR_CODE", 0x9C00000000#40, 0xFF00000000#40⟩,
  ⟨"WR_RO_ERR_POS", 0xA000000000#40, 0xFF00000000#40⟩,
  ⟨"WR_RO_PAD", 0xA400000000#40, 0xFF00000000#40⟩,
  ⟨"WR_RO_BYTE_COUNT", 0xA800000000#40, 0xFF00000000#40⟩,
  ⟨"WR_RO_BIT_POS", 0xAC00000000#40, 0xFF00000000#40⟩,
  ⟨"WR_RO_SYM_COUNT", 0xB000000000#40, 0xFF00000000#40⟩,
  ⟨"WR_CT_INDEX", 0xB400000000#40, 0xFF00000000#40⟩,
  ⟨"WR_CT_CODE", 0xB800000000#40, 0xFF00000000#40⟩,
  ⟨"WR_CT_ENTRY", 0xBC00000000#40, 0xFF00000000#40⟩,
  ⟨"WR_RO_CT_RCODE", 0xC000000000#40, 0xFF00000000#40⟩,
  ⟨"WR_RO_CT_COUNT", 0xC400000000#40, 0xFF00000000#40⟩,
  ⟨"WR_DATA_IN", 0xC800000000#40, 0xFF00000000#40⟩,
  ⟨"WR_RO_DATA_OUT", 0xCC00000000#40, 0xFF00000000#40⟩]

/-- The rows of the reserved offsets and of the misaligned accesses. -/
def otherRows : List OpcodeRow := [
  ⟨"RD_RSVD_50_5C", 0x5000000000#40, 0xF300000000#40⟩,
  ⟨"RD_RSVD_60_7C", 0x6000000000#40, 0xE300000000#40⟩,
  ⟨"WR_RSVD_50_5C", 0xD000000000#40, 0xF300000000#40⟩,
  ⟨"WR_RSVD_60_7C", 0xE000000000#40, 0xE300000000#40⟩,
  ⟨"BUSERR_MISALIGNED_1", 0x0100000000#40, 0x0300000000#40⟩,
  ⟨"BUSERR_MISALIGNED_2", 0x0200000000#40, 0x0300000000#40⟩,
  ⟨"BUSERR_MISALIGNED_3", 0x0300000000#40, 0x0300000000#40⟩]

/-- The 47 rows of spec/opcode_table.json, in its order. -/
def opcodeRows : List OpcodeRow := readRows ++ writeRows ++ otherRows

end Sys2Proof
end

