-- ==== Sys2Proof/Machine/State.lean ====
section
/-!
DEFINITION. The state of the machine: the tuple of R32 (`Dev`), and around it the instance parameters, what the
outside world is about to do, and what the bus answered last.
-/

namespace Sys2Proof.Machine

/-- `FSTATE` (R32). -/
inductive FState where
  | idle
  | header
  | run
  | drain
  | done
  | error
  deriving DecidableEq, Repr

/-- The error codes of R280, 0 (no error) first; 9..15 are reserved and have no constructor. -/
inductive ErrCode where
  | noError
  | emptyAlphabet
  | degenerateTree
  | truncatedStream
  | unknownCode
  | emptyCodeTable
  | malformedFrequencyLine
  | inputOverrun
  | frameTooLong
  deriving DecidableEq, Repr

/-- An entry of the code table (R150). The code is right-aligned. -/
structure Entry where
  valid : Bool
  len : BitVec 6
  code : Word
  sym : Symbol
  deriving DecidableEq, Repr

/-- An invalid entry holds all-zero fields (R150). -/
def Entry.invalid : Entry where
  valid := false
  len := 0#6
  code := 0#32
  sym := 0#16

/-- The complete state of a HUFFDEC instance: exactly the variables of R32. The three naturals of R32 are `Nat`
(log entry 13); vectors whose width is a parameter have the greatest legal width (log entry 12). -/
structure Dev where
  fstate : FState
  ct : List Entry
  ctIndex : BitVec 12
  ctStage : Word
  pad : BitVec 8
  padValid : Bool
  bytesRx : Nat
  pos : Nat
  buf : Bits
  ended : Bool
  pend : ErrCode
  pendPos : Word
  out : List Symbol
  symCount : Nat
  errCode : ErrCode
  errPos : Word
  ctWerr : Bool
  cmdErr : Bool
  irqEn : BitVec 2
  irqStat : BitVec 2
  deriving DecidableEq, Repr

/-- The reset values of R32 and R310. -/
def Dev.reset (p : Params) : Dev where
  fstate := .idle
  ct := List.replicate p.ctEntries Entry.invalid
  ctIndex := 0#12
  ctStage := 0#32
  pad := 0#8
  padValid := false
  bytesRx := 0
  pos := 0
  buf := []
  ended := false
  pend := .noError
  pendPos := 0#32
  out := []
  symCount := 0
  errCode := .noError
  errPos := 0#32
  ctWerr := false
  cmdErr := false
  irqEn := 0#2
  irqStat := 0#2

/-- A bus access as the host issues it. `whole` says that the access is of a full 32-bit word: narrowness is a
property of the bus, which a transaction word cannot express (R73, R91). -/
structure Access where
  addr : Nat
  dir : Dir
  data : Word
  whole : Bool
  deriving DecidableEq, Repr

/-- What happens next, from outside the engine or by its leave (R79, R295, R311; log entry 3). -/
inductive Event where
  /-- The host issues a bus access. -/
  | access (a : Access)
  /-- The engine has the turn: it takes its enabled step, if it has one. -/
  | engine
  /-- The platform asserts `rst`. -/
  | reset
  /-- The platform asserts `rst` while an access is on the bus, which R311 forbids (item I13). -/
  | accessInReset (a : Access)
  /-- The platform takes the power away and gives it back, without reset (R295, item I9). -/
  | powerDown
  deriving DecidableEq, Repr

/-- The response on the bus (R73). -/
inductive Resp where
  | okay
  | busError
  deriving DecidableEq, Repr

/-- The answer to a transaction. `rdata` is the 32-bit result of a read (R90); a write has none. -/
structure Reply where
  resp : Resp
  rdata : Option Word
  deriving DecidableEq, Repr

/-- The state of the model: the block's own state `dev`, and the model's own fields. -/
structure State where
  /-- The instance parameters (R5; log entry 1). No step changes them. -/
  cfg : Params
  /-- The state of the block (R32). -/
  dev : Dev
  /-- What is to happen, oldest first (log entry 3). -/
  schedule : List Event
  /-- The answer to the last transaction that reached the block; none before the first (log entry 5). -/
  reply : Option Reply
  /-- How many free values have been drawn (log entry 10). -/
  freeUses : Nat
  /-- A power-down has come without a reset since: the variables hold whatever they hold (log entry 11). No step
  reads it. -/
  lost : Bool
  deriving DecidableEq, Repr

/-- The state after reset of an instance with parameters `p`: R310, nothing scheduled and nothing answered. -/
def State.resetWith (p : Params) : State where
  cfg := p
  dev := Dev.reset p
  schedule := []
  reply := none
  freeUses := 0
  lost := false

/-- The state after reset, with the default parameters of R5 (log entries 1, 2, 4). -/
def State.reset : State := State.resetWith Params.defaults

/-- The faults of the machine: none. The spec gives HUFFDEC no way to stop: an error of a frame is a state
(R290), a bus error is an answer (R73), and a stall leaves the state as it is (R226). Safe: nothing stops early. -/
inductive Fault
  deriving DecidableEq, Repr

/-- The refusals of the machine. -/
inductive Refusal where
  /-- Raised by an arm of `exec` whose instruction has no meaning yet, with the row's mnemonic; no arm raises
  it. Safe: a refusal proves nothing of the hardware. -/
  | notModelled (mnemonic : String)
  deriving DecidableEq, Repr

end Sys2Proof.Machine
end

