-- ==== Sys2Proof/Machine/Operands.lean ====
section
/-!
DEFINITION. The operand fields of write data (R92). Every field is unsigned and taken as is.
-/

namespace Sys2Proof.Machine

/-- `v[n-1:0]`, zero-extended: how a field whose width is the parameter `n` is held (R7, R43; log entry 12). -/
def lowBits {w : Nat} (n : Nat) (v : BitVec w) : BitVec w := BitVec.ofNat w (v.toNat % 2 ^ n)

/-! ## CTRL (R37) -/

def ctrlStart (v : Word) : Bool := v.getLsbD 0
def ctrlEnd (v : Word) : Bool := v.getLsbD 1
def ctrlAbort (v : Word) : Bool := v.getLsbD 2
def ctrlCtClear (v : Word) : Bool := v.getLsbD 3

/-! ## CT_INDEX and CT_CODE (R43) -/

/-- `v[CT_IDX_W-1:0]`. -/
def indexField (p : Params) (v : Word) : BitVec 12 := (lowBits p.ctIdxW v).setWidth 12

/-- `v[L_MAX-1:0]`. -/
def codeField (p : Params) (v : Word) : Word := lowBits p.lMax v

/-! ## CT_ENTRY (R44) -/

def entryValid (v : Word) : Bool := v.getLsbD 31
def entryLen (v : Word) : BitVec 6 := v.extractLsb' 16 6

/-- `v[SYM_W-1:0]`. -/
def entrySym (p : Params) (v : Word) : Symbol := lowBits p.symW (v.extractLsb' 0 16)

/-! ## DATA_IN (R46), IRQ_EN (R40), the write-1-to-clear registers (R39, R40) -/

def dataByte (v : Word) : Byte := v.extractLsb' 0 8
def irqEnables (v : Word) : BitVec 2 := v.extractLsb' 0 2
def clearMask (v : Word) : BitVec 2 := v.extractLsb' 0 2

/-- Writing 1 to a bit clears it, and writing 0 leaves it (R33). -/
def writeOneClear (old : BitVec 2) (v : Word) : BitVec 2 := old &&& ~~~ (clearMask v)

end Sys2Proof.Machine
end

