-- ==== Sys2Proof/Machine/Reference.lean ====
section
/-!
DEFINITION. The reference functions of 40_reference_functions.md: bit sequences, padding removal, Match, Decode,
Decompress and the reference encoder. They have no state and no timing; the engine calls `matchTable`.
-/

namespace Sys2Proof.Machine

/-! ## Bit sequences (R8) -/

/-- `ToBits(v, n)`: the low `n` bits of `v`, most significant first. -/
def toBits (v : Nat) : Nat → Bits
  | 0 => []
  | n + 1 => v.testBit n :: toBits v n

/-- `bitsMSB8(b)` (R8, R74). -/
def bitsMSB8 (b : Byte) : Bits := toBits b.toNat 8

/-- The bits of a byte sequence, in the order of the bytes (R74). -/
def bitsOfBytes (bytes : List Byte) : Bits := bytes.flatMap bitsMSB8

/-- The unsigned value of a bit sequence, most significant bit first (R74). -/
def valueMSB (s : Bits) : Nat := s.foldl (fun v b => 2 * v + b.toNat) 0

/-! ## Tables (R120) -/

/-- `Code(e) = ToBits(e.code, e.len)` (R120, R76). -/
def Entry.codeBits (e : Entry) : Bits := toBits e.code.toNat e.len.toNat

/-- `CT_COUNT`, the number of valid entries (R34). -/
def tableCount (tbl : List Entry) : Nat := tbl.countP (·.valid)

/-- `LMAX_T`, the greatest length of a valid entry, or 0 (R34). -/
def tableLMax (tbl : List Entry) : Nat :=
  tbl.foldr (fun e m => if e.valid then max e.len.toNat m else m) 0

/-! ## Match (R123) -/

/-- The result `Some(len, sym, index)` of Match. -/
structure Hit where
  len : Nat
  sym : Symbol
  index : Nat
  deriving DecidableEq, Repr

/-- The least index of a valid entry of length `l` whose code is `take(l, w)`. -/
def hitAt (tbl : List Entry) (w : Bits) (l : Nat) : Option Nat :=
  tbl.findIdx? fun e => e.valid && (e.len.toNat == l && e.codeBits == w.take l)

/-- The entry at index `i`; an index outside the table, which no run reaches, gives the invalid entry (log entry 14). -/
def entryAt (tbl : List Entry) (i : Nat) : Entry := tbl.getD i Entry.invalid

/-- `Match(tbl, w)`: the shortest length that hits, then the least index (R123). -/
def matchTable (tbl : List Entry) (w : Bits) : Option Hit :=
  (List.range' 1 w.length).findSome? fun l =>
    (hitAt tbl w l).map fun i => { len := l, sym := (entryAt tbl i).sym, index := i }

/-- The hit of entry `i` alone: `valid`, `1 <= len <= len(w)`, and the first `len` bits of `w` are the code (R231). -/
def entryHit (w : Bits) (e : Entry) (i : Nat) : Option Hit :=
  if e.valid && (decide (1 ≤ e.len.toNat) && (decide (e.len.toNat ≤ w.length) && e.codeBits == w.take e.len.toNat))
  then some { len := e.len.toNat, sym := e.sym, index := i }
  else none

/-- Of two hits, the first unless the second is strictly shorter. -/
def shorterHit (a b : Option Hit) : Option Hit :=
  match a, b with
  | none, b => b
  | some a, none => some a
  | some a, some b => if b.len < a.len then some b else some a

/-- The priority select of R231 over the entries from index `i` on: least length, then least index. -/
def selectHit (w : Bits) : List Entry → Nat → Option Hit
  | [], _ => none
  | e :: tbl, i => shorterHit (entryHit w e i) (selectHit w tbl (i + 1))

/-! ## Results (R120) -/

/-- `Ok(v)` or `Err(kind, pos)`. -/
inductive Result (α : Type) where
  | ok (v : α)
  | err (kind : ErrCode) (pos : Nat)
  deriving DecidableEq, Repr

/-! ## Padding removal (R121) -/

/-- `RemovePaddingBits(s)`. -/
def removePaddingBits (s : Bits) : Result Bits :=
  if s.length < 8 then .err .truncatedStream s.length
  else
    let padding := valueMSB (s.take 8)
    let rest := s.drop 8
    if padding > rest.length then .err .truncatedStream s.length
    else .ok (rest.take (rest.length - padding))

/-- `RemovePadding(bytes)`. -/
def removePadding (bytes : List Byte) : Result Bits := removePaddingBits (bitsOfBytes bytes)

/-! ## Decode, bit by bit (R122) -/

/-- The least index of a valid entry whose code is the candidate. -/
def candidateHit (tbl : List Entry) (cand : Bits) : Option Nat :=
  tbl.findIdx? fun e => e.valid && e.codeBits == cand

/-- The scan of R122 from bit `k` on, with the candidate, its start and the symbols emitted so far. -/
def scanBits (tbl : List Entry) : Bits → Nat → Bits → Nat → List Symbol → Result (List Symbol)
  | [], _, cand, start, out => if cand = [] then .ok out else .err .unknownCode start
  | b :: s, k, cand, start, out =>
    match candidateHit tbl (cand ++ [b]) with
    | some i => scanBits tbl s (k + 1) [] (k + 1) (out ++ [(entryAt tbl i).sym])
    | none => scanBits tbl s (k + 1) (cand ++ [b]) start out

/-- `Decode(s, tbl)` (R122). -/
def decodeBitwise (s : Bits) (tbl : List Entry) : Result (List Symbol) :=
  if tableCount tbl = 0 then .err .emptyCodeTable 0 else scanBits tbl s 0 [] 0 []

/-! ## DecodeM, code by code (R124) -/

/-- The symbols the loop of R124 emits, and the position at which it fails, if it does. -/
structure Decoded where
  syms : List Symbol
  failAt : Option Nat
  deriving DecidableEq, Repr

/-- The loop of R124 on the bits from position `pos` on. Each turn takes at least one bit, so that fuel `len(s)`
is enough. -/
def decodeLoop (tbl : List Entry) : Nat → Bits → Nat → Decoded
  | 0, s, pos => { syms := [], failAt := if s = [] then none else some pos }
  | _ + 1, [], _ => { syms := [], failAt := none }
  | n + 1, b :: s, pos =>
    match matchTable tbl (b :: s) with
    | none => { syms := [], failAt := some pos }
    | some h =>
      let r := decodeLoop tbl n ((b :: s).drop h.len) (pos + h.len)
      { syms := h.sym :: r.syms, failAt := r.failAt }

/-- The symbols emitted on `s`, and the position of the failure. -/
def decodeAll (s : Bits) (tbl : List Entry) : Decoded := decodeLoop tbl s.length s 0

/-- `DecodeM(s, tbl)` (R124). -/
def decodeM (s : Bits) (tbl : List Entry) : Result (List Symbol) :=
  if tableCount tbl = 0 then .err .emptyCodeTable 0
  else
    match (decodeAll s tbl).failAt with
    | some pos => .err .unknownCode pos
    | none => .ok (decodeAll s tbl).syms

/-! ## Decompress (R125) -/

/-- `Decompress(bytes, tbl)`: the meaning of one frame. -/
def decompress (bytes : List Byte) (tbl : List Entry) : Result (List Symbol) :=
  match removePadding bytes with
  | .err kind pos => .err kind pos
  | .ok s =>
    match decodeM s tbl with
    | .err .unknownCode q => .err .unknownCode (8 + q)
    | .err kind _ => .err kind 0
    | .ok syms => .ok syms

/-! ## The reference encoder (R130) -/

/-- The bits of the symbols; none if a symbol has no valid entry, for which R130 gives no code. -/
def symbolBits (tbl : List Entry) : List Symbol → Option Bits
  | [] => some []
  | s :: syms =>
    match tbl.find? fun e => e.valid && e.sym == s with
    | none => none
    | some e => (symbolBits tbl syms).map (e.codeBits ++ ·)

/-- `pack8`: each 8 bits, most significant first, into one byte, `n` times. -/
def pack8 : Nat → Bits → List Byte
  | 0, _ => []
  | n + 1, s => BitVec.ofNat 8 (valueMSB (s.take 8)) :: pack8 n (s.drop 8)

/-- `EncodeFrame(syms, tbl)` (R130). -/
def encodeFrame (syms : List Symbol) (tbl : List Entry) : Option (List Byte) :=
  (symbolBits tbl syms).map fun bits =>
    let padding := (8 - bits.length % 8) % 8
    BitVec.ofNat 8 padding :: pack8 ((bits.length + padding) / 8) (bits ++ List.replicate padding false)

end Sys2Proof.Machine
end

