-- ==== Sys2Proof/Machine/Flags.lean ====
section
/-!
DEFINITION. The derived quantities of R34, and the words that show the state to the host (R36, R38 to R45, R280).
-/

namespace Sys2Proof.Machine

/-! ## Codes -/

/-- The 3-bit code of a frame state (R32). -/
def FState.code : FState → BitVec 3
  | .idle => 0#3
  | .header => 1#3
  | .run => 2#3
  | .drain => 3#3
  | .done => 4#3
  | .error => 5#3

/-- The 4-bit code of an error (R280). -/
def ErrCode.code : ErrCode → BitVec 4
  | .noError => 0#4
  | .emptyAlphabet => 1#4
  | .degenerateTree => 2#4
  | .truncatedStream => 3#4
  | .unknownCode => 4#4
  | .emptyCodeTable => 5#4
  | .malformedFrequencyLine => 6#4
  | .inputOverrun => 7#4
  | .frameTooLong => 8#4

/-! ## Derived quantities (R34) -/

/-- `R_BITS`: payload bits received. -/
def Dev.rBits (d : Dev) : Nat := if 1 ≤ d.bytesRx then 8 * (d.bytesRx - 1) else 0

/-- `CT_COUNT`. -/
def Dev.ctCount (d : Dev) : Nat := tableCount d.ct

/-- `LMAX_T`. -/
def Dev.lMaxT (d : Dev) : Nat := tableLMax d.ct

/-- `D`: decodable bits (R34, R220). -/
def Dev.decodable (d : Dev) : Nat := if d.fstate = .run then d.rBits - d.pad.toNat - d.pos else 0

/-- `W = take(D, BUF)`: the decodable window (R220). -/
def Dev.window (d : Dev) : Bits := d.buf.take d.decodable

/-- `ACTIVE`: FSTATE is HEADER, RUN or DRAIN. -/
def Dev.active (d : Dev) : Bool :=
  match d.fstate with
  | .header | .run | .drain => true
  | .idle | .done | .error => false

/-- `IN_READY`. -/
def Dev.inReady (p : Params) (d : Dev) : Bool :=
  match d.fstate with
  | .header => true
  | .run => !d.ended && (decide (8 ≤ p.bufBits - d.buf.length) && decide (d.bytesRx < p.maxFrameBytes))
  | .drain => decide (d.bytesRx < p.maxFrameBytes)
  | .idle | .done | .error => false

/-- `OUT_VALID`. -/
def Dev.outValid (d : Dev) : Bool := decide (1 ≤ d.out.length)

/-- `OUT_FULL`. -/
def Dev.outFull (p : Params) (d : Dev) : Bool := decide (d.out.length = p.outDepth)

/-- The interrupt output `irq` (R34, R287). -/
def Dev.irq (d : Dev) : Bool :=
  (d.irqStat.getLsbD 0 && d.irqEn.getLsbD 0) || (d.irqStat.getLsbD 1 && d.irqEn.getLsbD 1)

/-! ## Register words. Every bit that no field names is 0 (R92). A word is its fields put side by side, most
significant first, so that a field never spills into its neighbour (log entry 15). -/

/-- The identifier of the block (R33, R250). -/
def idWord : Word := 0x48444543#32

/-- PARAM (R36). -/
def paramWord (p : Params) : Word :=
  BitVec.ofNat 8 p.symW ++ BitVec.ofNat 8 p.outDepth ++ 0#4 ++ BitVec.ofNat 4 p.ctIdxW ++ BitVec.ofNat 8 p.lMax

/-- STATUS (R38). -/
def statusWord (p : Params) (d : Dev) : Word :=
  0#6 ++ BitVec.ofNat 10 d.buf.length ++ BitVec.ofNat 8 d.out.length ++ BitVec.ofBool d.padValid ++
    BitVec.ofBool (d.outFull p) ++ BitVec.ofBool d.outValid ++ BitVec.ofBool (d.inReady p) ++
    BitVec.ofBool d.ended ++ d.fstate.code

/-- FLAGS (R39). -/
def flagsWord (d : Dev) : Word := 0#30 ++ BitVec.ofBool d.cmdErr ++ BitVec.ofBool d.ctWerr

/-- CT_ENTRY as read (R44). -/
def entryWord (e : Entry) : Word := BitVec.ofBool e.valid ++ 0#9 ++ e.len ++ e.sym

/-- CT_COUNT (R45). -/
def ctCountWord (d : Dev) : Word :=
  0#10 ++ BitVec.ofNat 6 d.lMaxT ++ 0#3 ++ BitVec.ofNat 13 d.ctCount

/-- DATA_OUT when a symbol is popped (R46). -/
def symbolWord (s : Symbol) : Word := 1#1 ++ 0#15 ++ s

/-- A natural held in a 32-bit register (R32, R42). -/
def countWord (n : Nat) : Word := BitVec.ofNat 32 n

end Sys2Proof.Machine
end

