-- ==== Sys2Proof/Machine/Ops.lean ====
section
/-!
DEFINITION. The operations the meanings share: the table, the FIFO, clearing a frame, the error entry (the block's
one exception, R290), and the answers on the bus.
-/

namespace Sys2Proof.Machine

/-! ## The code table (R150) -/

/-- `CT[CT_INDEX]`. -/
def Dev.entry (d : Dev) : Entry := entryAt d.ct d.ctIndex.toNat

/-- `CT_INDEX + 1` modulo `CT_ENTRIES` (R152). -/
def nextIndex (p : Params) (i : BitVec 12) : BitVec 12 := BitVec.ofNat 12 ((i.toNat + 1) % p.ctEntries)

/-! ## The output FIFO (R9) -/

/-- `push(OUT, s)`. -/
def Dev.pushOut (d : Dev) (s : Symbol) : Dev := { d with out := d.out ++ [s] }

/-- `pop(OUT)`. -/
def Dev.popOut (d : Dev) : Dev := { d with out := d.out.tail }

/-! ## Frames -/

/-- `FrameClear()` (R181). -/
def Dev.frameClear (d : Dev) : Dev :=
  { d with
    pad := 0#8, padValid := false, bytesRx := 0, pos := 0, buf := [], ended := false, pend := .noError
    pendPos := 0#32, out := [], symCount := 0, errCode := .noError, errPos := 0#32 }

/-- `IRQ_STAT[k] <- 1` (R227, R290). -/
def Dev.raiseIrq (d : Dev) (k : Nat) : Dev := { d with irqStat := d.irqStat ||| BitVec.twoPow 2 k }

/-- The error entry, `raise FrameError(code, pos)` (R290): the one exception of the block. Nothing is saved and
no handler is entered; there is no return from it but START, ABORT or reset (R291). -/
def Dev.frameError (d : Dev) (code : ErrCode) (pos : Word) : Dev :=
  { d with
    fstate := .error, errCode := code, errPos := pos, buf := [], out := [], pend := .noError, pendPos := 0#32
    irqStat := d.irqStat ||| BitVec.twoPow 2 1 }

/-- `8 * BYTES_RX`, the raw bits received (R284). -/
def Dev.rawBits (d : Dev) : Word := BitVec.ofNat 32 (8 * d.bytesRx)

/-- `8 + POS`, the raw-stream offset of the candidate (R284). -/
def Dev.rawPos (d : Dev) : Word := BitVec.ofNat 32 (8 + d.pos)

/-! ## Answers on the bus -/

/-- An accepted read: OKAY with the value, and no side effect (R73, R77). -/
def State.okRead (s : State) (v : Word) : State := { s with reply := some { resp := .okay, rdata := some v } }

/-- An accepted write that leaves the block in state `d` (R73). -/
def State.okWrite (s : State) (d : Dev) : State :=
  { s with dev := d, reply := some { resp := .okay, rdata := none } }

/-- `BusError`: no state of the block changes, and a read returns 0 data (R73). -/
def State.busError (s : State) (dir : Dir) : State :=
  { s with
    reply := some { resp := .busError, rdata := match dir with | .read => some 0#32 | .write => none } }

/-- The outcome of a read without side effect. -/
def readValue (v : Word) (s : State) : Host.Outcome State Fault Refusal := .next (s.okRead v)

/-- The outcome of a write that changes nothing (R97, R264). -/
def writeIgnored (s : State) : Host.Outcome State Fault Refusal := .next (s.okWrite s.dev)

/-- The outcome of a misaligned access (R73). -/
def answerBusError (dir : Dir) (s : State) : Host.Outcome State Fault Refusal := .next (s.busError dir)

end Sys2Proof.Machine
end

