-- ==== Sys2Proof/Machine/Engine.lean ====
section
/-!
DEFINITION. The decode engine (44_decode_engine.md).
-/

namespace Sys2Proof.Machine

/-- The steps of the engine. -/
inductive EngineStep where
  | decode (h : Hit)
  | unmatch
  | finish
  | failEnd
  deriving DecidableEq, Repr

/-- The step that is enabled, if any: the table of R221. Outside RUN there is none (R229). -/
def Dev.enabledStep (p : Params) (d : Dev) : Option EngineStep :=
  match d.fstate with
  | .run =>
    match matchTable d.ct d.window with
    | some h => if d.outFull p then none else some (.decode h)
    | none =>
      if d.ended then if d.decodable = 0 then some .finish else some .failEnd
      else if d.lMaxT ≤ d.decodable then some .unmatch
      else none
  | .idle | .header | .drain | .done | .error => none

/-- DECODE (R225). -/
def Dev.decodeStep (d : Dev) (h : Hit) : Dev :=
  { d.pushOut h.sym with
    pos := d.pos + h.len, buf := d.buf.drop h.len, symCount := d.symCount + 1 }

/-- UNMATCH (R224). -/
def Dev.unmatchStep (d : Dev) : Dev :=
  { d with fstate := .drain, pend := .unknownCode, pendPos := d.rawPos, buf := [], out := [] }

/-- FINISH (R227). -/
def Dev.finishStep (d : Dev) : Dev := { d.raiseIrq 0 with fstate := .done, buf := [] }

/-- FAIL_END (R228). -/
def Dev.failEndStep (d : Dev) : Dev := d.frameError .unknownCode d.rawPos

/-- The effect of a step. -/
def Dev.takeStep (d : Dev) : EngineStep → Dev
  | .decode h => d.decodeStep h
  | .unmatch => d.unmatchStep
  | .finish => d.finishStep
  | .failEnd => d.failEndStep

/-- The engine's turn: its enabled step, or nothing, a stall or wait (R221, R226). -/
def Dev.engineTurn (p : Params) (d : Dev) : Dev :=
  match d.enabledStep p with
  | none => d
  | some e => d.takeStep e

/-- The engine's turn in the machine: parameters, schedule and bus are as they were. -/
def State.engineTurn (s : State) : State := { s with dev := s.dev.engineTurn s.cfg }

end Sys2Proof.Machine
end

