-- ==== Sys2Proof/Machine/Bus.lean ====
section
/-!
DEFINITION. How an access reaches the block (R71 to R73, R90), what `rst` does (R310, R311), what a power-down without
reset does (R295), and the host's pseudo-operations as events (R99).
-/

namespace Sys2Proof.Machine

/-- `off = addr - BASE`, if the address lies in the window (R71). -/
def windowOffset (p : Params) (addr : Nat) : Option Offset :=
  if p.base ≤ addr ∧ addr < p.base + 128 then some (BitVec.ofNat 7 (addr - p.base)) else none

/-- How the block sees an access. -/
inductive Arrival where
  /-- The address is outside the window: the access does not reach the block (R71). -/
  | outside
  /-- The access is narrower than a word (R73). -/
  | narrow (dir : Dir)
  /-- The transaction word of R90. -/
  | word (t : TWord)
  deriving DecidableEq, Repr

/-- The arrival of an access at the block. -/
def arrive (p : Params) (a : Access) : Arrival :=
  match windowOffset p a.addr with
  | none => .outside
  | some off => if a.whole then .word (mkTWord a.dir off a.data) else .narrow a.dir

/-- The access whose arrival is the transaction word `t`. -/
def accessOf (p : Params) (t : TWord) : Access where
  addr := p.base + (twOff t).toNat
  dir := twDir t
  data := twData t
  whole := true

/-- `rst`: every variable of R32 to its reset value (R310, R311). DESIGN CHOICE (log entry 8): the bus holds no
answer after it. -/
def State.platformReset (s : State) : State := { s with dev := Dev.reset s.cfg, reply := none, lost := false }

/-- The free answer to an access of direction `dir` (item I13; log entry 10). -/
def freeReply (n : Nat) (dir : Dir) : Reply where
  resp := if Config.freeOkay n then .okay else .busError
  rdata := match dir with | .read => some (Config.freeReadData n) | .write => none

/-- An access while `rst` is asserted: if it reaches the block its answer is free, and it has no lasting effect
(item I13; log entry 10). -/
def State.resetAccess (s : State) (a : Access) : State :=
  match windowOffset s.cfg a.addr with
  | none => s.platformReset
  | some _ => { s.platformReset with reply := some (freeReply s.freeUses a.dir), freeUses := s.freeUses + 1 }

/-! ## Power-down without reset (R295, item I9). Each variable holds a free value of its type in R32, made of
`free`, a family of numbers under the number of the variable and an index within it -/

/-- A frame state from a free value. -/
def lostFState (v : Nat) : FState :=
  match v % 6 with
  | 0 => .idle
  | 1 => .header
  | 2 => .run
  | 3 => .drain
  | 4 => .done
  | _ => .error

/-- An error code from a free value: 0 or one that HUFFDEC raises (R280), since a model never sets another
(R281, item I15). -/
def lostErrCode (v : Nat) : ErrCode :=
  match v % 6 with
  | 0 => .noError
  | 1 => .truncatedStream
  | 2 => .unknownCode
  | 3 => .emptyCodeTable
  | 4 => .inputOverrun
  | _ => .frameTooLong

/-- A pending error from a free value: one of 0, 4 and 5 (R32). -/
def lostPend (v : Nat) : ErrCode :=
  match v % 3 with
  | 0 => .noError
  | 1 => .unknownCode
  | _ => .emptyCodeTable

/-- A bit from a free value. -/
def lostBit (v : Nat) : Bool := v % 2 == 1

/-- Entry `i` of the table: any valid bit, any length, any code of `L_MAX` bits, any symbol of `SYM_W` bits. -/
def lostEntry (p : Params) (free : Nat → Nat → Nat) (i : Nat) : Entry where
  valid := lostBit (free 1 i)
  len := BitVec.ofNat 6 (free 2 i)
  code := lowBits p.lMax (BitVec.ofNat 32 (free 3 i))
  sym := lowBits p.symW (BitVec.ofNat 16 (free 4 i))

/-- Every variable of R32 at a value made of `free`, within its type and range there: as `free` varies, any. -/
def Dev.lost (p : Params) (free : Nat → Nat → Nat) : Dev where
  fstate := lostFState (free 0 0)
  ct := (List.range p.ctEntries).map (lostEntry p free)
  ctIndex := lowBits p.ctIdxW (BitVec.ofNat 12 (free 5 0))
  ctStage := lowBits p.lMax (BitVec.ofNat 32 (free 6 0))
  pad := BitVec.ofNat 8 (free 7 0)
  padValid := lostBit (free 8 0)
  bytesRx := free 9 0 % (p.maxFrameBytes + 1)
  pos := free 10 0 % 2 ^ 32
  buf := (List.range (free 11 0 % (p.bufBits + 1))).map fun i => lostBit (free 12 i)
  ended := lostBit (free 13 0)
  pend := lostPend (free 14 0)
  pendPos := BitVec.ofNat 32 (free 15 0)
  out := (List.range (free 16 0 % (p.outDepth + 1))).map fun i =>
    lowBits p.symW (BitVec.ofNat 16 (free 17 i))
  symCount := free 18 0 % 2 ^ 32
  errCode := lostErrCode (free 19 0)
  errPos := BitVec.ofNat 32 (free 20 0)
  ctWerr := lostBit (free 21 0)
  cmdErr := lostBit (free 22 0)
  irqEn := BitVec.ofNat 2 (free 23 0)
  irqStat := BitVec.ofNat 2 (free 24 0)

/-- A power-down without reset: the table is lost (R295) and no variable is known until a reset (item I9; log
entry 11). The parameters are hardwired (R36). DESIGN CHOICE (log entry 8): the bus holds no answer after it. -/
def State.powerDown (s : State) : State :=
  { s with
    dev := Dev.lost s.cfg (Config.freeVariable s.freeUses), reply := none, freeUses := s.freeUses + 1, lost := true }

/-! ## Pseudo-operations (R99) -/

/-- `rd <REG>` at offset `off`. -/
def rdOp (p : Params) (off : Offset) : Event := .access (accessOf p (mkTWord .read off 0#32))

/-- `wr <REG>, v` at offset `off`. -/
def wrOp (p : Params) (off : Offset) (v : Word) : Event := .access (accessOf p (mkTWord .write off v))

def opStart (p : Params) : Event := wrOp p 0x08#7 1#32
def opEnd (p : Params) : Event := wrOp p 0x08#7 2#32
def opAbort (p : Params) : Event := wrOp p 0x08#7 4#32
def opCtClear (p : Params) : Event := wrOp p 0x08#7 8#32
def opPush (p : Params) (b : Byte) : Event := wrOp p 0x48#7 (b.setWidth 32)
def opPop (p : Params) : Event := rdOp p 0x4C#7

/-- `VALID|LEN(n)|SYM(s)`. -/
def defineWord (n : BitVec 6) (s : Symbol) : Word := 1#1 ++ 0#9 ++ n ++ s

/-- `ct_next c, n, s`. -/
def opCtNext (p : Params) (c : Word) (n : BitVec 6) (s : Symbol) : List Event :=
  [wrOp p 0x38#7 c, wrOp p 0x3C#7 (defineWord n s)]

/-- `ct_load i, c, n, s`. -/
def opCtLoad (p : Params) (i : Word) (c : Word) (n : BitVec 6) (s : Symbol) : List Event :=
  wrOp p 0x34#7 i :: opCtNext p c n s

/-- `ct_inval i`. -/
def opCtInval (p : Params) (i : Word) : List Event := [wrOp p 0x34#7 i, wrOp p 0x3C#7 0#32]

end Sys2Proof.Machine
end

