-- ==== Sys2Proof/Machine/CodeTable.lean ====
section
/-!
DEFINITION. The code-table operations (41_code_table.md).
-/

namespace Sys2Proof.Machine

/-! ## Writes -/

/-- WR_CT_INDEX (R151). -/
def execWrCtIndex (v : Word) (s : State) : Host.Outcome State Fault Refusal :=
  .next (s.okWrite { s.dev with ctIndex := indexField s.cfg v })

/-- WR_CT_CODE (R159). -/
def execWrCtCode (v : Word) (s : State) : Host.Outcome State Fault Refusal :=
  .next (s.okWrite { s.dev with ctStage := codeField s.cfg v })

/-- The length check of R154: a commit that defines an entry needs `1 <= LEN <= L_MAX`. -/
def lenRefused (p : Params) (v : Word) : Bool :=
  entryValid v && (decide ((entryLen v).toNat = 0) || decide (p.lMax < (entryLen v).toNat))

/-- The entry a commit stores (R152): the staged bits at and above the length are dropped. -/
def committedEntry (p : Params) (stage : Word) (v : Word) : Entry :=
  if entryValid v then
    { valid := true, len := entryLen v, code := lowBits (entryLen v).toNat stage, sym := entrySym p v }
  else Entry.invalid

/-- The commit of R152, with the table lock of R153 and the length check of R154. -/
def Dev.commitEntry (p : Params) (d : Dev) (v : Word) : Dev :=
  if d.active then { d with ctWerr := true }
  else if lenRefused p v then { d with ctWerr := true }
  else
    { d with
      ct := d.ct.set d.ctIndex.toNat (committedEntry p d.ctStage v)
      ctIndex := nextIndex p d.ctIndex }

/-- WR_CT_ENTRY (R152, R153, R154). -/
def execWrCtEntry (v : Word) (s : State) : Host.Outcome State Fault Refusal :=
  .next (s.okWrite (s.dev.commitEntry s.cfg v))

/-! ## Reads -/

/-- RD_CT_ENTRY (R155). -/
def execRdCtEntry (s : State) : Host.Outcome State Fault Refusal := readValue (entryWord s.dev.entry) s

/-- RD_CT_RCODE (R156). -/
def execRdCtRcode (s : State) : Host.Outcome State Fault Refusal := readValue s.dev.entry.code s

/-- RD_CT_INDEX (R157). -/
def execRdCtIndex (s : State) : Host.Outcome State Fault Refusal := readValue (s.dev.ctIndex.setWidth 32) s

/-- RD_CT_CODE (R158). -/
def execRdCtCode (s : State) : Host.Outcome State Fault Refusal := readValue s.dev.ctStage s

/-- RD_CT_COUNT (R160). -/
def execRdCtCount (s : State) : Host.Outcome State Fault Refusal := readValue (ctCountWord s.dev) s

end Sys2Proof.Machine
end

