-- ==== Sys2Proof/Machine/FrameControl.lean ====
section
/-!
DEFINITION. The commands of CTRL (42_frame_control.md).
-/

namespace Sys2Proof.Machine

/-- START (R181). -/
def Dev.start (d : Dev) : Dev :=
  if d.active then { d with cmdErr := true } else { d.frameClear with fstate := .header }

/-- `PAD > R_BITS`: the declared padding exceeds the payload (R182). -/
def Dev.truncated (d : Dev) : Bool := decide (d.rBits < d.pad.toNat)

/-- END (R182). -/
def Dev.endStream (d : Dev) : Dev :=
  match d.fstate with
  | .header => d.frameError .truncatedStream 0#32
  | .run =>
    if d.ended then { d with cmdErr := true }
    else if d.truncated then d.frameError .truncatedStream d.rawBits
    else { d with ended := true }
  | .drain => if d.truncated then d.frameError .truncatedStream d.rawBits else d.frameError d.pend d.pendPos
  | .idle | .done | .error => { d with cmdErr := true }

/-- ABORT (R183). -/
def Dev.abort (d : Dev) : Dev := { d.frameClear with fstate := .idle }

/-- CT_CLEAR (R184). -/
def Dev.clearTable (d : Dev) : Dev :=
  if d.active then { d with ctWerr := true }
  else { d with ct := d.ct.map fun _ => Entry.invalid, ctIndex := 0#12 }

/-- A command runs if its bit is written as 1 (R37, R180). -/
def Dev.command (d : Dev) (given : Bool) (run : Dev → Dev) : Dev := if given then run d else d

/-- The commands of one CTRL write, in the fixed order ABORT, CT_CLEAR, START, END (R180). -/
def Dev.control (d : Dev) (v : Word) : Dev :=
  (((d.command (ctrlAbort v) Dev.abort).command (ctrlCtClear v) Dev.clearTable).command
    (ctrlStart v) Dev.start).command (ctrlEnd v) Dev.endStream

/-- WR_CTRL (R180). -/
def execWrCtrl (v : Word) (s : State) : Host.Outcome State Fault Refusal := .next (s.okWrite (s.dev.control v))

/-- RD_CTRL: CTRL is write-only (R186). -/
def execRdCtrl (s : State) : Host.Outcome State Fault Refusal := readValue 0#32 s

end Sys2Proof.Machine
end

