-- ==== Sys2Proof/Machine/Reserved.lean ====
section
/-!
DEFINITION. Reserved offsets (R97) and misaligned accesses (R73).
-/

namespace Sys2Proof.Machine

/-- RD_RSVD_50_5C: read as zero (R97). -/
def execRdRsvd505c (_off : Offset) (s : State) : Host.Outcome State Fault Refusal := readValue 0#32 s

/-- RD_RSVD_60_7C: read as zero (R97). -/
def execRdRsvd607c (_off : Offset) (s : State) : Host.Outcome State Fault Refusal := readValue 0#32 s

/-- WR_RSVD_50_5C: write ignored (R97). -/
def execWrRsvd505c (_off : Offset) (_v : Word) (s : State) : Host.Outcome State Fault Refusal := writeIgnored s

/-- WR_RSVD_60_7C: write ignored (R97). -/
def execWrRsvd607c (_off : Offset) (_v : Word) (s : State) : Host.Outcome State Fault Refusal := writeIgnored s

/-- BUSERR_MISALIGNED_1: `OFF[1:0] = 1` (R73). -/
def execBuserrMisaligned1 (dir : Dir) (_off : Offset) (_v : Word) (s : State) : Host.Outcome State Fault Refusal :=
  answerBusError dir s

/-- BUSERR_MISALIGNED_2: `OFF[1:0] = 2` (R73). -/
def execBuserrMisaligned2 (dir : Dir) (_off : Offset) (_v : Word) (s : State) : Host.Outcome State Fault Refusal :=
  answerBusError dir s

/-- BUSERR_MISALIGNED_3: `OFF[1:0] = 3` (R73). -/
def execBuserrMisaligned3 (dir : Dir) (_off : Offset) (_v : Word) (s : State) : Host.Outcome State Fault Refusal :=
  answerBusError dir s

end Sys2Proof.Machine
end

