-- ==== Sys2Proof/Machine/StatusIrq.lean ====
section
/-!
DEFINITION. Identification, status, flags, interrupt, error record and counters, and writes to read-only registers
(45_status_irq.md).
-/

namespace Sys2Proof.Machine

/-! ## Identification and status -/

/-- RD_ID (R250). -/
def execRdId (s : State) : Host.Outcome State Fault Refusal := readValue idWord s

/-- RD_PARAM (R251). -/
def execRdParam (s : State) : Host.Outcome State Fault Refusal := readValue (paramWord s.cfg) s

/-- RD_STATUS (R252). -/
def execRdStatus (s : State) : Host.Outcome State Fault Refusal := readValue (statusWord s.cfg s.dev) s

/-- RD_FLAGS (R253). -/
def execRdFlags (s : State) : Host.Outcome State Fault Refusal := readValue (flagsWord s.dev) s

/-- The flags after a write of 1 to bits of FLAGS (R254). -/
def Dev.clearFlags (d : Dev) (v : Word) : Dev :=
  { d with
    ctWerr := d.ctWerr && !(clearMask v).getLsbD 0
    cmdErr := d.cmdErr && !(clearMask v).getLsbD 1 }

/-- WR_FLAGS (R254). -/
def execWrFlags (v : Word) (s : State) : Host.Outcome State Fault Refusal := .next (s.okWrite (s.dev.clearFlags v))

/-! ## Interrupt -/

/-- RD_IRQ_EN (R255). -/
def execRdIrqEn (s : State) : Host.Outcome State Fault Refusal := readValue (s.dev.irqEn.setWidth 32) s

/-- WR_IRQ_EN (R256). -/
def execWrIrqEn (v : Word) (s : State) : Host.Outcome State Fault Refusal :=
  .next (s.okWrite { s.dev with irqEn := irqEnables v })

/-- RD_IRQ_STAT (R257). -/
def execRdIrqStat (s : State) : Host.Outcome State Fault Refusal := readValue (s.dev.irqStat.setWidth 32) s

/-- WR_IRQ_STAT (R258). -/
def execWrIrqStat (v : Word) (s : State) : Host.Outcome State Fault Refusal :=
  .next (s.okWrite { s.dev with irqStat := writeOneClear s.dev.irqStat v })

/-! ## Error record and counters -/

/-- RD_ERR_CODE (R259). -/
def execRdErrCode (s : State) : Host.Outcome State Fault Refusal := readValue (s.dev.errCode.code.setWidth 32) s

/-- RD_ERR_POS (R260). -/
def execRdErrPos (s : State) : Host.Outcome State Fault Refusal := readValue s.dev.errPos s

/-- RD_PAD (R261). -/
def execRdPad (s : State) : Host.Outcome State Fault Refusal := readValue (s.dev.pad.setWidth 32) s

/-- RD_BYTE_COUNT (R262). -/
def execRdByteCount (s : State) : Host.Outcome State Fault Refusal := readValue (countWord s.dev.bytesRx) s

/-- RD_BIT_POS (R263). -/
def execRdBitPos (s : State) : Host.Outcome State Fault Refusal := readValue (countWord s.dev.pos) s

/-- RD_SYM_COUNT (R265). -/
def execRdSymCount (s : State) : Host.Outcome State Fault Refusal := readValue (countWord s.dev.symCount) s

/-! ## Writes to read-only registers (R264): no state changes and no flag is set -/

/-- WR_RO_ID (R264). -/
def execWrRoId (_v : Word) (s : State) : Host.Outcome State Fault Refusal := writeIgnored s

/-- WR_RO_PARAM (R264). -/
def execWrRoParam (_v : Word) (s : State) : Host.Outcome State Fault Refusal := writeIgnored s

/-- WR_RO_STATUS (R264). -/
def execWrRoStatus (_v : Word) (s : State) : Host.Outcome State Fault Refusal := writeIgnored s

/-- WR_RO_ERR_CODE (R264). -/
def execWrRoErrCode (_v : Word) (s : State) : Host.Outcome State Fault Refusal := writeIgnored s

/-- WR_RO_ERR_POS (R264). -/
def execWrRoErrPos (_v : Word) (s : State) : Host.Outcome State Fault Refusal := writeIgnored s

/-- WR_RO_PAD (R264). -/
def execWrRoPad (_v : Word) (s : State) : Host.Outcome State Fault Refusal := writeIgnored s

/-- WR_RO_BYTE_COUNT (R264). -/
def execWrRoByteCount (_v : Word) (s : State) : Host.Outcome State Fault Refusal := writeIgnored s

/-- WR_RO_BIT_POS (R264). -/
def execWrRoBitPos (_v : Word) (s : State) : Host.Outcome State Fault Refusal := writeIgnored s

/-- WR_RO_SYM_COUNT (R264). -/
def execWrRoSymCount (_v : Word) (s : State) : Host.Outcome State Fault Refusal := writeIgnored s

/-- WR_RO_CT_RCODE (R264). -/
def execWrRoCtRcode (_v : Word) (s : State) : Host.Outcome State Fault Refusal := writeIgnored s

/-- WR_RO_CT_COUNT (R264). -/
def execWrRoCtCount (_v : Word) (s : State) : Host.Outcome State Fault Refusal := writeIgnored s

/-- WR_RO_DATA_OUT (R264). -/
def execWrRoDataOut (_v : Word) (s : State) : Host.Outcome State Fault Refusal := writeIgnored s

end Sys2Proof.Machine
end

