-- ==== Sys2Proof/Machine/StreamIO.lean ====
section
/-!
DEFINITION. Stream input and symbol output (43_stream_io.md).
-/

namespace Sys2Proof.Machine

/-- The header byte (R200). -/
def Dev.takeHeader (d : Dev) (b : Byte) : Dev :=
  if d.ctCount = 0 then
    { d with
      pad := b, padValid := true, bytesRx := 1, fstate := .drain, pend := .emptyCodeTable, pendPos := 0#32 }
  else { d with pad := b, padValid := true, bytesRx := 1, fstate := .run }

/-- A payload byte that is accepted (R201). -/
def Dev.takePayload (d : Dev) (b : Byte) : Dev :=
  { d with buf := d.buf ++ bitsMSB8 b, bytesRx := d.bytesRx + 1 }

/-- A payload byte that is refused (R202): FrameTooLong is tested before InputOverrun (R283). -/
def Dev.refusePayload (p : Params) (d : Dev) : Dev :=
  if d.bytesRx = p.maxFrameBytes then d.frameError .frameTooLong d.rawBits else d.frameError .inputOverrun d.rawBits

/-- A byte in DRAIN: counted and dropped, unless the frame is too long (R204). -/
def Dev.dropByte (p : Params) (d : Dev) : Dev :=
  if d.bytesRx = p.maxFrameBytes then d.frameError .frameTooLong d.rawBits else { d with bytesRx := d.bytesRx + 1 }

/-- A byte of the raw stream (R200 to R204). -/
def Dev.pushByte (p : Params) (d : Dev) (b : Byte) : Dev :=
  match d.fstate with
  | .header => d.takeHeader b
  | .run =>
    if d.ended then { d with cmdErr := true }
    else if d.inReady p then d.takePayload b
    else d.refusePayload p
  | .drain => d.dropByte p
  | .idle | .done | .error => { d with cmdErr := true }

/-- WR_DATA_IN (R200 to R204). -/
def execWrDataIn (v : Word) (s : State) : Host.Outcome State Fault Refusal :=
  .next (s.okWrite (s.dev.pushByte s.cfg (dataByte v)))

/-- RD_DATA_IN: DATA_IN is write-only (R206). -/
def execRdDataIn (s : State) : Host.Outcome State Fault Refusal := readValue 0#32 s

/-- RD_DATA_OUT: pop a symbol, or read 0 (R205). -/
def execRdDataOut (s : State) : Host.Outcome State Fault Refusal :=
  match s.dev.out with
  | [] => readValue 0#32 s
  | sym :: _ => readValue (symbolWord sym) { s with dev := s.dev.popOut }

end Sys2Proof.Machine
end

