-- ==== Sys2Proof/Machine/Dispatch.lean ====
section
/-!
DEFINITION. One arm per instruction: the direct call of its meaning.
-/

namespace Sys2Proof.Machine

def exec (i : Instr) (s : State) : Host.Outcome State Fault Refusal :=
  match i with
  | .rdId => Sys2Proof.Machine.execRdId s
  | .rdParam => Sys2Proof.Machine.execRdParam s
  | .rdCtrl => Sys2Proof.Machine.execRdCtrl s
  | .rdStatus => Sys2Proof.Machine.execRdStatus s
  | .rdFlags => Sys2Proof.Machine.execRdFlags s
  | .rdIrqEn => Sys2Proof.Machine.execRdIrqEn s
  | .rdIrqStat => Sys2Proof.Machine.execRdIrqStat s
  | .rdErrCode => Sys2Proof.Machine.execRdErrCode s
  | .rdErrPos => Sys2Proof.Machine.execRdErrPos s
  | .rdPad => Sys2Proof.Machine.execRdPad s
  | .rdByteCount => Sys2Proof.Machine.execRdByteCount s
  | .rdBitPos => Sys2Proof.Machine.execRdBitPos s
  | .rdSymCount => Sys2Proof.Machine.execRdSymCount s
  | .rdCtIndex => Sys2Proof.Machine.execRdCtIndex s
  | .rdCtCode => Sys2Proof.Machine.execRdCtCode s
  | .rdCtEntry => Sys2Proof.Machine.execRdCtEntry s
  | .rdCtRcode => Sys2Proof.Machine.execRdCtRcode s
  | .rdCtCount => Sys2Proof.Machine.execRdCtCount s
  | .rdDataIn => Sys2Proof.Machine.execRdDataIn s
  | .rdDataOut => Sys2Proof.Machine.execRdDataOut s
  | .wrRoId v => Sys2Proof.Machine.execWrRoId v s
  | .wrRoParam v => Sys2Proof.Machine.execWrRoParam v s
  | .wrCtrl v => Sys2Proof.Machine.execWrCtrl v s
  | .wrRoStatus v => Sys2Proof.Machine.execWrRoStatus v s
  | .wrFlags v => Sys2Proof.Machine.execWrFlags v s
  | .wrIrqEn v => Sys2Proof.Machine.execWrIrqEn v s
  | .wrIrqStat v => Sys2Proof.Machine.execWrIrqStat v s
  | .wrRoErrCode v => Sys2Proof.Machine.execWrRoErrCode v s
  | .wrRoErrPos v => Sys2Proof.Machine.execWrRoErrPos v s
  | .wrRoPad v => Sys2Proof.Machine.execWrRoPad v s
  | .wrRoByteCount v => Sys2Proof.Machine.execWrRoByteCount v s
  | .wrRoBitPos v => Sys2Proof.Machine.execWrRoBitPos v s
  | .wrRoSymCount v => Sys2Proof.Machine.execWrRoSymCount v s
  | .wrCtIndex v => Sys2Proof.Machine.execWrCtIndex v s
  | .wrCtCode v => Sys2Proof.Machine.execWrCtCode v s
  | .wrCtEntry v => Sys2Proof.Machine.execWrCtEntry v s
  | .wrRoCtRcode v => Sys2Proof.Machine.execWrRoCtRcode v s
  | .wrRoCtCount v => Sys2Proof.Machine.execWrRoCtCount v s
  | .wrDataIn v => Sys2Proof.Machine.execWrDataIn v s
  | .wrRoDataOut v => Sys2Proof.Machine.execWrRoDataOut v s
  | .rdRsvd505c off => Sys2Proof.Machine.execRdRsvd505c off s
  | .rdRsvd607c off => Sys2Proof.Machine.execRdRsvd607c off s
  | .wrRsvd505c off v => Sys2Proof.Machine.execWrRsvd505c off v s
  | .wrRsvd607c off v => Sys2Proof.Machine.execWrRsvd607c off v s
  | .buserrMisaligned1 dir off v => Sys2Proof.Machine.execBuserrMisaligned1 dir off v s
  | .buserrMisaligned2 dir off v => Sys2Proof.Machine.execBuserrMisaligned2 dir off v s
  | .buserrMisaligned3 dir off v => Sys2Proof.Machine.execBuserrMisaligned3 dir off v s

end Sys2Proof.Machine
end

