-- ==== Sys2Proof/Machine/Step.lean ====
section
/-!
DEFINITION. One step of the machine: the next event of the schedule, or the engine's turn when there is none
(R78, R79; log entry 3).
-/

namespace Sys2Proof.Machine

/-- An access is carried out whole, in one step (R78). -/
def stepAccess (a : Access) (s : State) : Host.Outcome State Fault Refusal :=
  match arrive s.cfg a with
  | .outside => .next s
  | .narrow dir => .next (s.busError dir)
  | .word t => exec (decode t) s

/-- What an event does. -/
def stepEvent (e : Event) (s : State) : Host.Outcome State Fault Refusal :=
  match e with
  | .access a => stepAccess a s
  | .engine => .next s.engineTurn
  | .reset => .next s.platformReset
  | .accessInReset a => .next (s.resetAccess a)
  | .powerDown => .next s.powerDown

/-- One step. An empty schedule leaves the turn to the engine, so that no enabled step waits for ever (R222). -/
def step (s : State) : Host.Outcome State Fault Refusal :=
  match s.schedule with
  | [] => .next s.engineTurn
  | e :: rest => stepEvent e { s with schedule := rest }

/-- `s` with the transaction word `w` as the host's next transaction (log entry 4). -/
def State.withFetchWord (s : State) (nbits w : Nat) : State :=
  { s with schedule := .access (accessOf s.cfg (BitVec.ofNat 40 (w % 2 ^ nbits))) :: s.schedule }

end Sys2Proof.Machine
end

