-- ==== Sys2Proof/Safety.lean ====
section
/-!
DEFINITION. The terms claims are stated in: the invariants of R35, R128 and R150, the types of R32, the observer of a
frame (R321) and what a frame means (R230), runs, and the shape of an answer.
-/

namespace Sys2Proof.Machine

/-! ## Answers -/

/-- `s` with `v` as the OKAY result of a read, and nothing else changed. -/
def State.answered (s : State) (v : Word) : State := { s with reply := some { resp := .okay, rdata := some v } }

/-- `s` with the OKAY response to a write that left the block in state `d`, and nothing else changed. -/
def State.written (s : State) (d : Dev) : State :=
  { s with dev := d, reply := some { resp := .okay, rdata := none } }

/-! ## Invariants -/

/-- The form of a table entry (R150): a valid one has a legal length, no code bit at or above it and a symbol of
`SYM_W` bits; an invalid one is all zero. -/
abbrev Entry.Ok (p : Params) (e : Entry) : Prop :=
  (e.valid = true → (1 ≤ e.len.toNat ∧ e.len.toNat ≤ p.lMax) ∧ e.code.toNat < 2 ^ e.len.toNat ∧
    e.sym.toNat < 2 ^ p.symW) ∧
  (e.valid = false → e = Entry.invalid)

/-- The eight invariants of R35, under their numbers there. -/
structure Dev.FrameInv (p : Params) (d : Dev) : Prop where
  /-- Item 1. -/
  run_buf : d.fstate = .run → d.buf.length = d.rBits - d.pos ∧ d.pos ≤ d.rBits - d.pad.toNat
  /-- Item 2. -/
  buf_empty : d.fstate ≠ .run → d.buf = []
  /-- Item 3: the header byte of the frame has been received exactly when `BYTES_RX >= 1`. -/
  pad_valid : d.padValid = true ↔
    d.fstate = .run ∨ d.fstate = .drain ∨ ((d.fstate = .done ∨ d.fstate = .error) ∧ 1 ≤ d.bytesRx)
  /-- Item 4. -/
  pend_drain : (d.pend ≠ .noError → d.fstate = .drain) ∧
    (d.fstate = .drain → d.pend = .unknownCode ∨ d.pend = .emptyCodeTable)
  /-- Item 5. -/
  ended_state : d.ended = true → d.fstate = .run ∨ d.fstate = .done ∨ d.fstate = .error
  /-- Item 6. -/
  out_flushed : d.fstate = .drain ∨ d.fstate = .error → d.out = []
  /-- Item 7. -/
  err_code : d.errCode ≠ .noError ↔ d.fstate = .error
  /-- Item 8. -/
  capacity : d.out.length ≤ p.outDepth ∧ d.buf.length ≤ p.bufBits ∧ d.bytesRx ≤ p.maxFrameBytes

/-- The ranges of R128, R150 and R32, and what the rules say of the table and the counters in each frame state. -/
structure Dev.RangeInv (p : Params) (d : Dev) : Prop where
  /-- The table has `CT_ENTRIES` entries, each of R150's form. -/
  table : d.ct.length = p.ctEntries ∧ ∀ e ∈ d.ct, Entry.Ok p e
  /-- `CT_INDEX` and `CT_STAGE` have the widths of R32. -/
  selection : d.ctIndex.toNat < p.ctEntries ∧ d.ctStage.toNat < 2 ^ p.lMax
  /-- The symbols of `OUT` have `SYM_W` bits. -/
  symbols : ∀ x ∈ d.out, x.toNat < 2 ^ p.symW
  /-- No byte is counted before the header byte, and RUN, DRAIN and DONE come after it. -/
  counted : (d.fstate = .idle ∨ d.fstate = .header → d.bytesRx = 0) ∧
    (d.fstate = .run ∨ d.fstate = .drain ∨ d.fstate = .done → 1 ≤ d.bytesRx)
  /-- `FrameClear` leaves no symbol in `OUT`, and none is pushed before RUN (R181, R225). -/
  unopened : d.fstate = .idle ∨ d.fstate = .header → d.out = []
  /-- `PAD` is 0 whenever `PAD_VALID` is 0 (R42). -/
  pad_zero : d.padValid = false → d.pad = 0#8
  /-- R128: `POS <= R_BITS` and `SYM_COUNT <= POS`. -/
  counters : d.pos ≤ d.rBits ∧ d.symCount ≤ d.pos
  /-- R128: `ERR_POS <= 8 * BYTES_RX`, and the same of the pending position. -/
  positions : d.errPos.toNat ≤ 8 * d.bytesRx ∧ d.pendPos.toNat ≤ 8 * d.bytesRx
  /-- RUN is entered only with a valid entry (R221). -/
  run_table : d.fstate = .run → 1 ≤ d.ctCount
  /-- END is accepted in RUN only if the payload holds the padding (R182). -/
  ended_pad : d.fstate = .run → d.ended = true → d.pad.toNat ≤ d.rBits
  /-- A pending UnknownCode cannot be pre-empted by truncation (R182). -/
  pend_certain : d.fstate = .drain → d.pend = .unknownCode → d.pad.toNat < d.rBits
  /-- The codes of stages outside the block are never produced (R281). -/
  raised : d.errCode ≠ .emptyAlphabet ∧ d.errCode ≠ .degenerateTree ∧ d.errCode ≠ .malformedFrequencyLine

/-- `ERR_CODE` and `PEND` hold only what HUFFDEC can set them to: never a code of a stage outside the block (R281),
and in `PEND` one of the three values of R32. -/
structure Dev.HardwareCodes (d : Dev) : Prop where
  err : d.errCode ≠ .emptyAlphabet ∧ d.errCode ≠ .degenerateTree ∧ d.errCode ≠ .malformedFrequencyLine
  pend : d.pend = .noError ∨ d.pend = .unknownCode ∨ d.pend = .emptyCodeTable

/-- Every variable keeps to its type and range in R32. What a power-down without reset leaves is any such block, and
need not meet the invariant (item I9; log entry 11). -/
structure Dev.Typed (p : Params) (d : Dev) : Prop where
  /-- The table: any entries whose code has `L_MAX` bits and whose symbol has `SYM_W` bits. -/
  table : d.ct.length = p.ctEntries ∧ ∀ e ∈ d.ct, e.code.toNat < 2 ^ p.lMax ∧ e.sym.toNat < 2 ^ p.symW
  /-- `CT_INDEX` and `CT_STAGE`. -/
  selection : d.ctIndex.toNat < p.ctEntries ∧ d.ctStage.toNat < 2 ^ p.lMax
  /-- `BYTES_RX`, `POS` and `SYM_COUNT`. -/
  naturals : d.bytesRx ≤ p.maxFrameBytes ∧ d.pos < 2 ^ 32 ∧ d.symCount < 2 ^ 32
  /-- `BUF`. -/
  buffer : d.buf.length ≤ p.bufBits
  /-- `OUT`. -/
  fifo : d.out.length ≤ p.outDepth ∧ ∀ x ∈ d.out, x.toNat < 2 ^ p.symW
  /-- `ERR_CODE` and `PEND`. -/
  codes : d.HardwareCodes

/-- The invariant of the machine: a legal instance (R5) in a state of R35's and R128's form. -/
structure State.Inv (s : State) : Prop where
  legal : s.cfg.Legal
  frame : s.dev.FrameInv s.cfg
  range : s.dev.RangeInv s.cfg

/-- What holds whatever happened before: a legal instance, and the invariant unless a power-down has come without a
reset since, after which the variables hold free values (R295, item I9; log entry 11). -/
def State.Sound (s : State) : Prop := s.cfg.Legal ∧ (s.lost = false → s.Inv)

/-- The next event is the platform's: a reset, or a power-down without one. -/
def State.platformTurn (s : State) : Bool :=
  match s.schedule with
  | .reset :: _ | .accessInReset _ :: _ | .powerDown :: _ => true
  | [] | .access _ :: _ | .engine :: _ => false

/-! ## The observer of a frame (R321). It is no part of the state (R32): it records, beside a run, what the host
wrote and read. -/

/-- The table in place when START was accepted, the raw bytes accepted since, and the VALID values read since. -/
structure Observer where
  table : List Entry
  bytes : List Byte
  popped : List Symbol
  deriving DecidableEq, Repr

/-- Nothing observed. -/
def Observer.fresh : Observer where
  table := []
  bytes := []
  popped := []

/-- The state a START command of the CTRL word `v` meets: after ABORT and CT_CLEAR (R180). -/
def Dev.beforeStart (d : Dev) (v : Word) : Dev :=
  (d.command (ctrlAbort v) Dev.abort).command (ctrlCtClear v) Dev.clearTable

/-- What is recorded as instruction `i` runs in `s`. An accepted START opens a new record, and ABORT empties it. -/
def Observer.instr (o : Observer) (i : Instr) (s : State) : Observer :=
  match i with
  | .wrCtrl v =>
    if ctrlStart v && !(s.dev.beforeStart v).active then
      { table := (s.dev.beforeStart v).ct, bytes := [], popped := [] }
    else if ctrlAbort v then Observer.fresh
    else o
  | .wrDataIn v => if s.dev.inReady s.cfg then { o with bytes := o.bytes ++ [dataByte v] } else o
  | .rdDataOut => { o with popped := o.popped ++ s.dev.out.take 1 }
  | _ => o

/-- What is recorded as the machine steps from `s`. -/
def Observer.step (o : Observer) (s : State) : Observer :=
  match s.schedule with
  | [] | .engine :: _ => o
  | .reset :: _ | .accessInReset _ :: _ | .powerDown :: _ => Observer.fresh
  | .access a :: _ =>
    match arrive s.cfg a with
    | .outside | .narrow _ => o
    | .word t => o.instr (decode t) s

/-- The symbols `DecodeM` emits on the stripped payload of `bytes` before it ends or fails; none if padding removal
fails (R121, R124, R230). -/
def frameSymbols (bytes : List Byte) (tbl : List Entry) : List Symbol :=
  match removePadding bytes with
  | .ok s => (decodeAll s tbl).syms
  | .err _ _ => []

/-- The error is one that DOC's decoder can report, and not a limit of the hardware (R280, R284). -/
def ErrCode.ofDecoder (c : ErrCode) : Bool :=
  match c with
  | .truncatedStream | .unknownCode | .emptyCodeTable => true
  | .noError | .emptyAlphabet | .degenerateTree | .malformedFrequencyLine | .inputOverrun | .frameTooLong => false

/-- What the record and the block say of the frame, state by state (R207, R220, R230). -/
def Observer.Meaning (o : Observer) (d : Dev) : Prop :=
  match d.fstate with
  | .idle => True
  | .header => o = { table := d.ct, bytes := [], popped := [] }
  | .run =>
    d.ct = o.table ∧ o.bytes.length = d.bytesRx ∧ (o.popped ++ d.out).length = d.symCount ∧
    ∃ rest, o.bytes = d.pad :: rest ∧ d.buf = (bitsOfBytes rest).drop d.pos ∧
      decodeAll ((bitsOfBytes rest).take d.pos) o.table = { syms := o.popped ++ d.out, failAt := none }
  | .drain =>
    d.ct = o.table ∧ o.bytes.length = d.bytesRx ∧ o.bytes.head? = some d.pad ∧
    (d.pend = .emptyCodeTable → tableCount o.table = 0 ∧ o.popped = [] ∧ d.pendPos = 0#32) ∧
    (d.pend = .unknownCode → ∀ more,
      decompress (o.bytes ++ more) o.table = .err .unknownCode d.pendPos.toNat ∧
      o.popped <+: frameSymbols (o.bytes ++ more) o.table)
  | .done =>
    decompress o.bytes o.table = .ok (o.popped ++ d.out) ∧ (o.popped ++ d.out).length = d.symCount ∧
    o.bytes.length = d.bytesRx ∧ o.bytes.head? = some d.pad ∧ d.pos = 8 * (o.bytes.length - 1) - d.pad.toNat
  | .error =>
    o.bytes.length = d.bytesRx ∧ o.popped <+: frameSymbols o.bytes o.table ∧
    (d.errCode.ofDecoder = true → decompress o.bytes o.table = .err d.errCode d.errPos.toNat)

/-! ## Runs -/

/-- `n` steps with the observer beside them. -/
def observedRun : Nat → Observer → State → Observer × State
  | 0, o, s => (o, s)
  | n + 1, o, s =>
    match step s with
    | .next t => observedRun n (o.step s) t
    | .fault _ => (o, s)
    | .refused _ => (o, s)

/-- A frame's run is over: DONE or ERROR, and `OUT = []` (R321). -/
def Dev.runOver (d : Dev) : Bool :=
  match d.fstate with
  | .done | .error => d.out.isEmpty
  | .idle | .header | .run | .drain => false

/-- A host that pops a symbol before each of `n` turns of the engine. -/
def poppingHost (p : Params) : Nat → List Event
  | 0 => []
  | n + 1 => opPop p :: .engine :: poppingHost p n

/-- The valid codes of a table are distinct, non-empty and no one is a prefix of another (R126). -/
def PrefixCode (tbl : List Entry) : Prop :=
  ∀ i j, (entryAt tbl i).valid = true → (entryAt tbl j).valid = true →
    (entryAt tbl i).codeBits ≠ [] ∧
    ((entryAt tbl i).codeBits <+: (entryAt tbl j).codeBits → i = j)

end Sys2Proof.Machine
end

