-- ==== Sys2Proof/Certificates/Slice0/Obligations.lean ====
section
/-!
DEFINITION. The statements for the provers. Each says in its docstring which rules of spec/ it states. An answer
to the host is written with `State.answered` (a read) and `State.written` (a write), which change nothing else.
-/

open Sys2Proof Sys2Proof.Machine

/-! ## Encoding -/

/-- Decoding the encoding of a well-formed instruction gives it back, for every instruction and every operand
(R90, R91, R93). -/
def Obligations.EncodeThenDecode : Prop :=
  ∀ i : Instr, i.wellFormed = true → decode (encode i) = i

/-- Every transaction word decodes to a well-formed instruction whose encoding is the word, but that a read's
ignored data bits read back 0 (R90, R91; log entry 6: the model's reading). -/
def Obligations.DecodeThenEncode : Prop :=
  ∀ t : TWord, (decode t).wellFormed = true ∧
    encode (decode t) = mkTWord (twDir t) (twOff t) (match twDir t with | .read => 0#32 | .write => twData t)

/-- R94, whole: the masks and matches of the rows, that each word matches exactly one row, and that this row is
the one of the instruction the word decodes to. -/
def Obligations.EachWordMatchesOneRow : Prop :=
  (∀ r ∈ readRows ++ writeRows, r.mask = 0xFF00000000#40) ∧
  readRows.map (·.bits) = (List.range 20).map (fun k => BitVec.ofNat 40 ((4 * k) <<< 32)) ∧
  writeRows.map (·.bits) = (List.range 20).map (fun k => BitVec.ofNat 40 ((1 <<< 39) ||| ((4 * k) <<< 32))) ∧
  otherRows.map (fun r => (r.mask, r.bits)) =
    [(0xF300000000#40, 0x5000000000#40), (0xE300000000#40, 0x6000000000#40),
     (0xF300000000#40, 0xD000000000#40), (0xE300000000#40, 0xE000000000#40),
     (0x0300000000#40, 0x0100000000#40), (0x0300000000#40, 0x0200000000#40), (0x0300000000#40, 0x0300000000#40)] ∧
  (∀ (r : OpcodeRow) (t : TWord), r.applies t = true ↔ t &&& r.mask = r.bits) ∧
  ∀ t : TWord, ∃ r, opcodeRows.filter (·.applies t) = [r] ∧ r.mnemonic = (decode t).mnemonic

/-- Words written out from R90 and R93 (vectors B1 to B5 and the programs of 95_test_vectors.md) decode to the
operations they stand for. -/
def Obligations.WrittenWordsDecode : Prop :=
  decode 0x8800000001#40 = .wrCtrl 1#32 ∧ decode 0x0C00000000#40 = .rdStatus ∧
  decode 0x5000000000#40 = .rdRsvd505c 0x50#7 ∧ decode 0xD400001234#40 = .wrRsvd505c 0x54#7 0x1234#32 ∧
  decode 0xFCFFFFFFFF#40 = .wrRsvd607c 0x7C#7 0xFFFFFFFF#32 ∧
  decode 0xBC80010061#40 = .wrCtEntry 0x80010061#32 ∧ decode 0xC80000004D#40 = .wrDataIn 0x4D#32 ∧
  decode 0x4C00000000#40 = .rdDataOut ∧ decode 0x8A00000001#40 = .buserrMisaligned2 .write 0x0A#7 1#32

/-! ## Steps -/

/-- A step takes the next event of the schedule. A whole-word access of address `BASE + off` is `exec` of the
instruction its transaction word decodes to, in the state without that event; so that the transaction of a well-formed
instruction `i` runs `i` (R78, R90); an access outside the window does not reach the block (R71); `rst` is one
transition (R311), and so is a power-down without it (R295; log entry 11); and the engine has its turn when the
schedule says so or is empty (R79, R222). The schedule, and that an earlier answer stands, are the model's choices
(log entries 3 and 5). -/
def Obligations.StepRunsTheDecodedInstruction : Prop :=
  (∀ (s : State) (rest : List Event) (dir : Dir) (off : Offset) (data : Word),
    s.schedule = .access { addr := s.cfg.base + off.toNat, dir := dir, data := data, whole := true } :: rest →
    step s = exec (decode (mkTWord dir off data)) { s with schedule := rest }) ∧
  (∀ (s : State) (rest : List Event) (i : Instr),
    i.wellFormed = true → s.schedule = .access (accessOf s.cfg (encode i)) :: rest →
    step s = exec i { s with schedule := rest }) ∧
  (∀ (s : State) (rest : List Event) (a : Access), s.schedule = .access a :: rest →
    step s = stepAccess a { s with schedule := rest } ∧
    ((a.addr < s.cfg.base ∨ s.cfg.base + 128 ≤ a.addr) → step s = .next { s with schedule := rest })) ∧
  (∀ (s : State) (rest : List Event), s.schedule = .reset :: rest →
    step s = .next ({ s with schedule := rest } : State).platformReset) ∧
  (∀ (s : State) (rest : List Event) (a : Access), s.schedule = .accessInReset a :: rest →
    step s = .next (({ s with schedule := rest } : State).resetAccess a)) ∧
  (∀ (s : State) (rest : List Event), s.schedule = .powerDown :: rest →
    step s = .next ({ s with schedule := rest } : State).powerDown) ∧
  (∀ (s : State) (rest : List Event), s.schedule = .engine :: rest →
    step s = .next ({ s with schedule := rest } : State).engineTurn) ∧
  ∀ s : State, s.schedule = [] → step s = .next s.engineTurn

/-- R73, whole: a misaligned access (each of the three rows) and an access narrower than a word change no state of
the block and are answered BusError, a read with data 0; the narrow read of DATA_OUT does not pop and the narrow
write of DATA_IN does not count, since nothing changes. An accepted access, a whole word at an aligned offset of
the window, gets OKAY. -/
def Obligations.BusErrorChangesNothing : Prop :=
  (∀ (s : State) (dir : Dir) (off : Offset) (data : Word) (i : Instr),
    (i = .buserrMisaligned1 dir off data ∨ i = .buserrMisaligned2 dir off data ∨
      i = .buserrMisaligned3 dir off data) →
    exec i s = .next { s with reply := some ⟨.busError, if dir = .read then some 0#32 else none⟩ }) ∧
  (∀ (s : State) (a : Access), s.cfg.base ≤ a.addr → a.addr < s.cfg.base + 128 →
    (a.whole = false ∨ (a.addr - s.cfg.base) % 4 ≠ 0) →
    stepAccess a s = .next { s with reply := some ⟨.busError, if a.dir = .read then some 0#32 else none⟩ }) ∧
  ∀ (s : State) (a : Access),
    s.cfg.base ≤ a.addr → a.addr < s.cfg.base + 128 → a.whole = true → (a.addr - s.cfg.base) % 4 = 0 →
    ∃ t rdata, stepAccess a s = .next t ∧ t.reply = some ⟨.okay, rdata⟩ ∧ (rdata = none ↔ a.dir = .write)

/-- R310, whole: `rst` puts every variable of R32 at its reset value, from any state; every register of R33 but the
constants ID and PARAM then reads 0, STATUS among them, and `irq` is 0. An access that meets `rst` has no lasting
effect (item I13 of 93). -/
def Obligations.ResetStateOfEveryVariable : Prop :=
  (∀ s : State,
    s.platformReset.dev =
      { fstate := .idle, ct := List.replicate (2 ^ s.cfg.ctIdxW) ⟨false, 0#6, 0#32, 0#16⟩, ctIndex := 0#12,
        ctStage := 0#32, pad := 0#8, padValid := false, bytesRx := 0, pos := 0, buf := [], ended := false,
        pend := .noError, pendPos := 0#32, out := [], symCount := 0, errCode := .noError, errPos := 0#32,
        ctWerr := false, cmdErr := false, irqEn := 0#2, irqStat := 0#2 } ∧
    s.platformReset.cfg = s.cfg ∧ s.platformReset.dev.irq = false ∧
    (1 ≤ s.cfg.outDepth →
      ∀ i ∈ [Instr.rdCtrl, .rdStatus, .rdFlags, .rdIrqEn, .rdIrqStat, .rdErrCode, .rdErrPos, .rdPad, .rdByteCount,
        .rdBitPos, .rdSymCount, .rdCtIndex, .rdCtCode, .rdCtEntry, .rdCtRcode, .rdCtCount, .rdDataIn, .rdDataOut],
        exec i s.platformReset = .next (s.platformReset.answered 0#32))) ∧
  ∀ (s : State) (a : Access), (s.resetAccess a).dev = s.platformReset.dev ∧ (s.resetAccess a).cfg = s.cfg

/-! ## Reads -/

/-- R250 and the value of R251: RD_ID and RD_PARAM, in every state of a legal instance, without side effect. -/
def Obligations.IdentificationReads : Prop :=
  (∀ s : State, exec .rdId s = .next (s.answered 0x48444543#32)) ∧
  ∀ s : State, s.cfg.Legal →
    exec .rdParam s = .next (s.answered (BitVec.ofNat 32
      ((s.cfg.symW <<< 24) ||| (s.cfg.outDepth <<< 16) ||| (s.cfg.ctIdxW <<< 8) ||| s.cfg.lMax)))

/-- R252: the value of STATUS, without side effect. -/
def Obligations.StatusReadAssemblesItsFields : Prop :=
  ∀ s : State, s.Inv →
    exec .rdStatus s = .next (s.answered (BitVec.ofNat 32
      ((s.dev.buf.length <<< 16) ||| (s.dev.out.length <<< 8) ||| (s.dev.padValid.toNat <<< 7) |||
        ((decide (s.dev.out.length = s.cfg.outDepth)).toNat <<< 6) |||
        ((decide (1 ≤ s.dev.out.length)).toNat <<< 5) ||| ((s.dev.inReady s.cfg).toNat <<< 4) |||
        (s.dev.ended.toNat <<< 3) |||
        (match s.dev.fstate with
          | .idle => 0 | .header => 1 | .run => 2 | .drain => 3 | .done => 4 | .error => 5))))

/-- R34, whole: the derived quantities, from the variables. -/
def Obligations.DerivedQuantitiesAreComputed : Prop :=
  (∀ d : Dev, d.rBits = if 1 ≤ d.bytesRx then 8 * (d.bytesRx - 1) else 0) ∧
  (∀ d : Dev, d.ctCount = (d.ct.filter (·.valid)).length ∧
    (∀ e ∈ d.ct, e.valid = true → e.len.toNat ≤ d.lMaxT) ∧
    (d.ctCount = 0 → d.lMaxT = 0) ∧ (1 ≤ d.ctCount → ∃ e ∈ d.ct, e.valid = true ∧ e.len.toNat = d.lMaxT)) ∧
  (∀ d : Dev, (d.decodable : Int) =
    if d.fstate = .run then max 0 ((d.rBits : Int) - d.pad.toNat - d.pos) else 0) ∧
  (∀ (p : Params) (d : Dev), d.inReady p = true ↔
    d.fstate = .header ∨
    (d.fstate = .run ∧ d.ended = false ∧ p.bufBits - d.buf.length ≥ 8 ∧ d.bytesRx < p.maxFrameBytes) ∨
    (d.fstate = .drain ∧ d.bytesRx < p.maxFrameBytes)) ∧
  (∀ d : Dev, d.outValid = true ↔ 1 ≤ d.out.length) ∧
  (∀ (p : Params) (d : Dev), d.outFull p = true ↔ d.out.length = p.outDepth) ∧
  (∀ d : Dev, d.active = true ↔ d.fstate = .header ∨ d.fstate = .run ∨ d.fstate = .drain) ∧
  ∀ d : Dev, d.irq = true ↔
    (d.irqStat.getLsbD 0 = true ∧ d.irqEn.getLsbD 0 = true) ∨
    (d.irqStat.getLsbD 1 = true ∧ d.irqEn.getLsbD 1 = true)

/-- R253, R255, R257, R259 to R263 and R265: flags, interrupt registers, error record, PAD and counters, without
side effect (reading IRQ_STAT does not clear); ERR_CODE reads 0 unless FSTATE is ERROR, and PAD reads 0 before the
header byte. -/
def Obligations.StatusRegisterReads : Prop :=
  ∀ s : State,
    (exec .rdFlags s = .next (s.answered (BitVec.ofNat 32 ((s.dev.cmdErr.toNat <<< 1) ||| s.dev.ctWerr.toNat))) ∧
    exec .rdIrqEn s = .next (s.answered (BitVec.ofNat 32 s.dev.irqEn.toNat)) ∧
    exec .rdIrqStat s = .next (s.answered (BitVec.ofNat 32 s.dev.irqStat.toNat)) ∧
    exec .rdErrCode s = .next (s.answered (BitVec.ofNat 32
      (match s.dev.errCode with
        | .noError => 0 | .emptyAlphabet => 1 | .degenerateTree => 2 | .truncatedStream => 3 | .unknownCode => 4
        | .emptyCodeTable => 5 | .malformedFrequencyLine => 6 | .inputOverrun => 7 | .frameTooLong => 8))) ∧
    exec .rdErrPos s = .next (s.answered s.dev.errPos) ∧
    exec .rdPad s = .next (s.answered (BitVec.ofNat 32 s.dev.pad.toNat)) ∧
    exec .rdByteCount s = .next (s.answered (BitVec.ofNat 32 s.dev.bytesRx)) ∧
    exec .rdBitPos s = .next (s.answered (BitVec.ofNat 32 s.dev.pos)) ∧
    exec .rdSymCount s = .next (s.answered (BitVec.ofNat 32 s.dev.symCount))) ∧
    (s.Inv → s.dev.fstate ≠ .error → exec .rdErrCode s = .next (s.answered 0#32)) ∧
    (s.Inv → s.dev.padValid = false → exec .rdPad s = .next (s.answered 0#32))

/-- R155 to R158 and R160: the table reads, without side effect; an invalid entry reads 0, an empty table counts 0,
code bits at and above the length read 0, and staged bits at and above L_MAX read 0. -/
def Obligations.TableReads : Prop :=
  ∀ s : State,
    (exec .rdCtEntry s = .next (s.answered (BitVec.ofNat 32
      (((entryAt s.dev.ct s.dev.ctIndex.toNat).valid.toNat <<< 31) |||
        ((entryAt s.dev.ct s.dev.ctIndex.toNat).len.toNat <<< 16) |||
        (entryAt s.dev.ct s.dev.ctIndex.toNat).sym.toNat))) ∧
    exec .rdCtRcode s = .next (s.answered (entryAt s.dev.ct s.dev.ctIndex.toNat).code) ∧
    exec .rdCtIndex s = .next (s.answered (BitVec.ofNat 32 s.dev.ctIndex.toNat)) ∧
    exec .rdCtCode s = .next (s.answered s.dev.ctStage)) ∧
    (s.Inv → exec .rdCtCount s = .next (s.answered (BitVec.ofNat 32 ((s.dev.lMaxT <<< 16) ||| s.dev.ctCount)))) ∧
    (s.Inv → s.dev.ctCount = 0 → exec .rdCtCount s = .next (s.answered 0#32)) ∧
    (s.Inv → (entryAt s.dev.ct s.dev.ctIndex.toNat).valid = false →
      exec .rdCtEntry s = .next (s.answered 0#32) ∧ exec .rdCtRcode s = .next (s.answered 0#32)) ∧
    (s.Inv → (entryAt s.dev.ct s.dev.ctIndex.toNat).code.toNat <
      2 ^ (entryAt s.dev.ct s.dev.ctIndex.toNat).len.toNat) ∧
    (s.Inv → s.dev.ctStage.toNat < 2 ^ s.cfg.lMax)

/-- R186, R206 and R97: the write-only registers CTRL and DATA_IN and the reserved offsets read 0 in every state,
without side effect, and a write to a reserved offset changes nothing and sets no flag; none of them is a BusError. -/
def Obligations.WriteOnlyAndReservedOffsets : Prop :=
  ∀ (s : State) (off : Offset) (v : Word),
    exec .rdCtrl s = .next (s.answered 0#32) ∧ exec .rdDataIn s = .next (s.answered 0#32) ∧
    exec (.rdRsvd505c off) s = .next (s.answered 0#32) ∧ exec (.rdRsvd607c off) s = .next (s.answered 0#32) ∧
    exec (.wrRsvd505c off v) s = .next (s.written s.dev) ∧ exec (.wrRsvd607c off v) s = .next (s.written s.dev)

/-- R205: DATA_OUT gives the head of OUT with bit 31 set and pops it, and gives 0 and pops nothing when OUT is empty. -/
def Obligations.DataOutPopsTheHead : Prop :=
  (∀ (s : State) (sym : Symbol) (rest : List Symbol), s.dev.out = sym :: rest →
    exec .rdDataOut s =
      .next (({ s with dev := { s.dev with out := rest } }).answered (BitVec.ofNat 32 ((1 <<< 31) ||| sym.toNat)))) ∧
  ∀ s : State, s.dev.out = [] → exec .rdDataOut s = .next (s.answered 0#32)

/-- Only the DATA_OUT read has a side effect: every other read leaves the whole block as it was (R77). -/
def Obligations.OtherReadsHaveNoSideEffect : Prop :=
  ∀ (i : Instr) (s t : State), i.dir = .read → i ≠ .rdDataOut → exec i s = .next t →
    t.dev = s.dev ∧ t.cfg = s.cfg ∧ t.schedule = s.schedule

/-! ## Writes -/

/-- R264: a write to a read-only register, each of the twelve, changes no state, sets no flag and is answered OKAY. -/
def Obligations.ReadOnlyWritesAreIgnored : Prop :=
  ∀ (s : State) (v : Word), ∀ i ∈ [Instr.wrRoId v, .wrRoParam v, .wrRoStatus v, .wrRoErrCode v, .wrRoErrPos v,
      .wrRoPad v, .wrRoByteCount v, .wrRoBitPos v, .wrRoSymCount v, .wrRoCtRcode v, .wrRoCtCount v,
      .wrRoDataOut v],
    exec i s = .next (s.written s.dev)

/-- R254: WR_FLAGS clears exactly the flags written as 1. -/
def Obligations.FlagsWriteClears : Prop :=
  ∀ (s : State) (v : Word),
    exec (.wrFlags v) s = .next (s.written { s.dev with
      ctWerr := if v.getLsbD 0 then false else s.dev.ctWerr
      cmdErr := if v.getLsbD 1 then false else s.dev.cmdErr })

/-- R256 and R258: WR_IRQ_EN stores `v[1:0]`, and `irq` follows at once; WR_IRQ_STAT clears exactly the bits written
as 1 and nothing else, `irq` falls when no enabled bit is left, and no other instruction clears a status bit. -/
def Obligations.InterruptRegisterWrites : Prop :=
  (∀ (s : State) (v : Word),
    exec (.wrIrqEn v) s = .next (s.written { s.dev with irqEn := BitVec.ofNat 2 (v.toNat % 4) }) ∧
    (({ s.dev with irqEn := BitVec.ofNat 2 (v.toNat % 4) } : Dev).irq = true ↔
      (s.dev.irqStat.getLsbD 0 = true ∧ v.getLsbD 0 = true) ∨
      (s.dev.irqStat.getLsbD 1 = true ∧ v.getLsbD 1 = true))) ∧
  (∀ (i : Instr) (s t : State) (k : Nat), exec i s = .next t → (∀ v, i ≠ .wrIrqStat v) →
    s.dev.irqStat.getLsbD k = true → t.dev.irqStat.getLsbD k = true) ∧
  ∀ (s : State) (v : Word), ∃ stat : BitVec 2,
    exec (.wrIrqStat v) s = .next (s.written { s.dev with irqStat := stat }) ∧
    stat.getLsbD 0 = (if v.getLsbD 0 then false else s.dev.irqStat.getLsbD 0) ∧
    stat.getLsbD 1 = (if v.getLsbD 1 then false else s.dev.irqStat.getLsbD 1) ∧
    (({ s.dev with irqStat := stat } : Dev).irq = false ↔
      ¬ (stat.getLsbD 0 = true ∧ s.dev.irqEn.getLsbD 0 = true) ∧
      ¬ (stat.getLsbD 1 = true ∧ s.dev.irqEn.getLsbD 1 = true))

/-- R151 and R159: WR_CT_INDEX stores `v[CT_IDX_W-1:0]` and WR_CT_CODE stores `v[L_MAX-1:0]`, in every frame state
of a legal instance; with `CT_IDX_W = 0` the index stays 0. -/
def Obligations.IndexAndCodeWrites : Prop :=
  ∀ (s : State) (v : Word), s.cfg.Legal →
    exec (.wrCtIndex v) s = .next (s.written { s.dev with ctIndex := BitVec.ofNat 12 (v.toNat % 2 ^ s.cfg.ctIdxW) }) ∧
    exec (.wrCtCode v) s = .next (s.written { s.dev with ctStage := BitVec.ofNat 32 (v.toNat % 2 ^ s.cfg.lMax) })

/-- R152, R153 and R154: the commit at CT_INDEX. Outside a frame, with VALID and a legal LEN it stores the entry, the
staged bits at and above LEN and the symbol bits at and above SYM_W dropped; without VALID it stores the all-zero
entry, whatever LEN is; CT_INDEX moves on by one modulo CT_ENTRIES, and nothing else changes. In HEADER, RUN and DRAIN
every commit, and in any state one with VALID and a LEN of 0 or above L_MAX, only sets CT_WERR. -/
def Obligations.CommitStoresOrIsRefused : Prop :=
  (∀ (s : State) (v : Word),
    (s.dev.fstate = .idle ∨ s.dev.fstate = .done ∨ s.dev.fstate = .error) →
    (v.getLsbD 31 = true → v.toNat / 2 ^ 16 % 2 ^ 6 ≠ 0 → v.toNat / 2 ^ 16 % 2 ^ 6 ≤ s.cfg.lMax →
      exec (.wrCtEntry v) s = .next (s.written { s.dev with
        ct := s.dev.ct.set s.dev.ctIndex.toNat
          { valid := true, len := BitVec.ofNat 6 (v.toNat / 2 ^ 16 % 2 ^ 6),
            code := BitVec.ofNat 32 (s.dev.ctStage.toNat % 2 ^ (v.toNat / 2 ^ 16 % 2 ^ 6)),
            sym := BitVec.ofNat 16 (v.toNat % 2 ^ 16 % 2 ^ s.cfg.symW) }
        ctIndex := BitVec.ofNat 12 ((s.dev.ctIndex.toNat + 1) % 2 ^ s.cfg.ctIdxW) })) ∧
    (v.getLsbD 31 = false →
      exec (.wrCtEntry v) s = .next (s.written { s.dev with
        ct := s.dev.ct.set s.dev.ctIndex.toNat ⟨false, 0#6, 0#32, 0#16⟩
        ctIndex := BitVec.ofNat 12 ((s.dev.ctIndex.toNat + 1) % 2 ^ s.cfg.ctIdxW) }))) ∧
  ∀ (s : State) (v : Word),
    (s.dev.fstate = .header ∨ s.dev.fstate = .run ∨ s.dev.fstate = .drain) ∨
      (v.getLsbD 31 = true ∧ (v.toNat / 2 ^ 16 % 2 ^ 6 = 0 ∨ s.cfg.lMax < v.toNat / 2 ^ 16 % 2 ^ 6)) →
    exec (.wrCtEntry v) s = .next (s.written { s.dev with ctWerr := true })

/-! ## CTRL -/

/-- R180: the commands of one write run in the order ABORT, CT_CLEAR, START, END, each seeing the state the one
before it left: the write is the composition of the four single commands, and other bits do nothing. -/
def Obligations.ControlRunsInOrder : Prop :=
  ∀ (s : State) (v : Word), ∃ s1 s2 s3 s4,
    exec (.wrCtrl (if v.getLsbD 2 then 4#32 else 0#32)) s = .next s1 ∧
    exec (.wrCtrl (if v.getLsbD 3 then 8#32 else 0#32)) s1 = .next s2 ∧
    exec (.wrCtrl (if v.getLsbD 0 then 1#32 else 0#32)) s2 = .next s3 ∧
    exec (.wrCtrl (if v.getLsbD 1 then 2#32 else 0#32)) s3 = .next s4 ∧
    exec (.wrCtrl v) s = .next s4 ∧ exec (.wrCtrl 0#32) s = .next (s.written s.dev)

/-- R181: START opens a frame outside one, clearing exactly the frame's variables; in HEADER, RUN and DRAIN it only
sets CMD_ERR. -/
def Obligations.StartOpensAFrame : Prop :=
  ∀ s : State,
    ((s.dev.fstate = .idle ∨ s.dev.fstate = .done ∨ s.dev.fstate = .error) →
      exec (.wrCtrl 1#32) s = .next (s.written { s.dev with
        fstate := .header, pad := 0#8, padValid := false, bytesRx := 0, pos := 0, buf := [], ended := false
        pend := .noError, pendPos := 0#32, out := [], symCount := 0, errCode := .noError, errPos := 0#32 })) ∧
    ((s.dev.fstate = .header ∨ s.dev.fstate = .run ∨ s.dev.fstate = .drain) →
      exec (.wrCtrl 1#32) s = .next (s.written { s.dev with cmdErr := true }))

/-- R182 with the error entry of R290: END, state by state. `R_BITS` is `8 * (BYTES_RX - 1)`, or 0 before the header.
By the invariant nothing was decoded where RUN finds `PAD > R_BITS`, and a pending UnknownCode never meets it. -/
def Obligations.EndClosesTheStream : Prop :=
  ∀ s : State,
    let failed (code : ErrCode) (pos : Word) : Dev := { s.dev with
      fstate := .error, errCode := code, errPos := pos, buf := [], out := [], pend := .noError, pendPos := 0#32
      irqStat := s.dev.irqStat ||| 2#2 }
    (s.dev.fstate = .header → exec (.wrCtrl 2#32) s = .next (s.written (failed .truncatedStream 0#32))) ∧
    ((s.dev.fstate = .run ∧ s.dev.ended = false ∨ s.dev.fstate = .drain) →
      8 * (s.dev.bytesRx - 1) < s.dev.pad.toNat →
      exec (.wrCtrl 2#32) s =
        .next (s.written (failed .truncatedStream (BitVec.ofNat 32 (8 * s.dev.bytesRx))))) ∧
    (s.dev.fstate = .run → s.dev.ended = false → s.dev.pad.toNat ≤ 8 * (s.dev.bytesRx - 1) →
      exec (.wrCtrl 2#32) s = .next (s.written { s.dev with ended := true })) ∧
    (s.dev.fstate = .drain → s.dev.pad.toNat ≤ 8 * (s.dev.bytesRx - 1) →
      exec (.wrCtrl 2#32) s = .next (s.written (failed s.dev.pend s.dev.pendPos))) ∧
    ((s.dev.fstate = .idle ∨ s.dev.fstate = .done ∨ s.dev.fstate = .error ∨
        (s.dev.fstate = .run ∧ s.dev.ended = true)) →
      exec (.wrCtrl 2#32) s = .next (s.written { s.dev with cmdErr := true })) ∧
    (s.Inv → s.dev.fstate = .run → 8 * (s.dev.bytesRx - 1) < s.dev.pad.toNat →
      s.dev.decodable = 0 ∧ s.dev.symCount = 0) ∧
    (s.Inv → s.dev.fstate = .drain → s.dev.pend = .unknownCode → s.dev.pad.toNat < 8 * (s.dev.bytesRx - 1))

/-- R183: ABORT, from any state, clears exactly the frame's variables and goes to IDLE. -/
def Obligations.AbortReturnsToIdle : Prop :=
  ∀ s : State,
    exec (.wrCtrl 4#32) s = .next (s.written { s.dev with
      fstate := .idle, pad := 0#8, padValid := false, bytesRx := 0, pos := 0, buf := [], ended := false
      pend := .noError, pendPos := 0#32, out := [], symCount := 0, errCode := .noError, errPos := 0#32 })

/-- R184: CT_CLEAR makes every entry all zero and CT_INDEX 0 outside a frame, after which CT_COUNT and LMAX_T are 0;
in a frame it only sets CT_WERR. -/
def Obligations.ClearTableInvalidatesAll : Prop :=
  ∀ s : State,
    ((s.dev.fstate = .idle ∨ s.dev.fstate = .done ∨ s.dev.fstate = .error) →
      ∃ d, exec (.wrCtrl 8#32) s = .next (s.written d) ∧
        d = { s.dev with ct := List.replicate s.dev.ct.length ⟨false, 0#6, 0#32, 0#16⟩, ctIndex := 0#12 } ∧
        d.ctCount = 0 ∧ d.lMaxT = 0) ∧
    ((s.dev.fstate = .header ∨ s.dev.fstate = .run ∨ s.dev.fstate = .drain) →
      exec (.wrCtrl 8#32) s = .next (s.written { s.dev with ctWerr := true }))

/-- No command of CTRL but CT_CLEAR touches the table, and none touches CT_CODE, IRQ_EN or the DONE status; the
flags and the ERR status are only ever set (R181 to R184, R287). -/
def Obligations.ControlFrame : Prop :=
  ∀ (s t : State) (v : Word), exec (.wrCtrl v) s = .next t →
    t.cfg = s.cfg ∧ t.schedule = s.schedule ∧ t.dev.ctStage = s.dev.ctStage ∧ t.dev.irqEn = s.dev.irqEn ∧
    (v.getLsbD 3 = false → t.dev.ct = s.dev.ct ∧ t.dev.ctIndex = s.dev.ctIndex ∧ t.dev.ctWerr = s.dev.ctWerr) ∧
    (s.dev.ctWerr = true → t.dev.ctWerr = true) ∧ (s.dev.cmdErr = true → t.dev.cmdErr = true) ∧
    t.dev.irqStat.getLsbD 0 = s.dev.irqStat.getLsbD 0 ∧
    (s.dev.irqStat.getLsbD 1 = true → t.dev.irqStat.getLsbD 1 = true)

/-! ## DATA_IN -/

/-- R200: the header byte. -/
def Obligations.HeaderByteSetsPadding : Prop :=
  ∀ (s : State) (v : Word), s.dev.fstate = .header →
    (s.dev.ctCount = 0 →
      exec (.wrDataIn v) s = .next (s.written { s.dev with
        pad := BitVec.ofNat 8 (v.toNat % 256), padValid := true, bytesRx := 1, fstate := .drain
        pend := .emptyCodeTable, pendPos := 0#32 })) ∧
    (1 ≤ s.dev.ctCount →
      exec (.wrDataIn v) s = .next (s.written { s.dev with
        pad := BitVec.ofNat 8 (v.toNat % 256), padValid := true, bytesRx := 1, fstate := .run }))

/-- R201 and R74: an accepted payload byte appends its eight bits, most significant first. -/
def Obligations.PayloadByteAppendsItsBits : Prop :=
  ∀ (s : State) (v : Word), s.dev.fstate = .run → s.dev.ended = false →
    s.dev.bytesRx < s.cfg.maxFrameBytes → s.cfg.bufBits - s.dev.buf.length ≥ 8 →
    exec (.wrDataIn v) s = .next (s.written { s.dev with
      buf := s.dev.buf ++ [v.getLsbD 7, v.getLsbD 6, v.getLsbD 5, v.getLsbD 4, v.getLsbD 3, v.getLsbD 2,
        v.getLsbD 1, v.getLsbD 0]
      bytesRx := s.dev.bytesRx + 1 })

/-- R202 and R204 with the error entry of R290: a byte that RUN refuses fails the frame, and in DRAIN a byte is
counted and dropped unless the frame is too long. FrameTooLong is tested before InputOverrun (R283). -/
def Obligations.RefusedAndDroppedBytes : Prop :=
  ∀ (s : State) (v : Word),
    let failed (code : ErrCode) : Dev := { s.dev with
      fstate := .error, errCode := code, errPos := BitVec.ofNat 32 (8 * s.dev.bytesRx), buf := [], out := []
      pend := .noError, pendPos := 0#32, irqStat := s.dev.irqStat ||| 2#2 }
    ((s.dev.fstate = .run ∧ s.dev.ended = false ∨ s.dev.fstate = .drain) →
      s.dev.bytesRx = s.cfg.maxFrameBytes →
      exec (.wrDataIn v) s = .next (s.written (failed .frameTooLong))) ∧
    (s.dev.fstate = .run → s.dev.ended = false → s.dev.inReady s.cfg = false →
      s.dev.bytesRx ≠ s.cfg.maxFrameBytes →
      exec (.wrDataIn v) s = .next (s.written (failed .inputOverrun))) ∧
    (s.dev.bytesRx < s.cfg.maxFrameBytes → s.dev.fstate = .run → s.dev.inReady s.cfg = false →
      s.dev.ended = true ∨ s.cfg.bufBits - s.dev.buf.length < 8) ∧
    (s.dev.fstate = .drain → s.dev.bytesRx ≠ s.cfg.maxFrameBytes →
      exec (.wrDataIn v) s = .next (s.written { s.dev with bytesRx := s.dev.bytesRx + 1 }))

/-- R203: a byte outside a frame, or after END, sets CMD_ERR and changes nothing else. -/
def Obligations.ByteOutsideAFrameIsIgnored : Prop :=
  ∀ (s : State) (v : Word),
    (s.dev.fstate = .idle ∨ s.dev.fstate = .done ∨ s.dev.fstate = .error ∨
      (s.dev.fstate = .run ∧ s.dev.ended = true)) →
    exec (.wrDataIn v) s = .next (s.written { s.dev with cmdErr := true })

/-! ## The engine -/

/-- R229: outside RUN no step of the engine is enabled, and its turn changes nothing. In every state its turn changes
the block alone: that the parameters, the schedule, the last answer, the count of free values and the record of a
power-down stay is the model's choice (log entries 1, 3, 5, 10 and 11). -/
def Obligations.EngineTurnsOnlyInRun : Prop :=
  ∀ s : State,
    (s.dev.fstate ≠ .run → s.dev.enabledStep s.cfg = none ∧ s.engineTurn = s) ∧
    s.engineTurn.cfg = s.cfg ∧ s.engineTurn.schedule = s.schedule ∧ s.engineTurn.reply = s.reply ∧
    s.engineTurn.freeUses = s.freeUses ∧ s.engineTurn.lost = s.lost

/-- R221, whole: which step is enabled in RUN, row by row; in RUN `LMAX_T >= 1`. -/
def Obligations.StepSelection : Prop :=
  ∀ (p : Params) (d : Dev), d.fstate = .run →
    (∀ h, matchTable d.ct d.window = some h → d.out.length ≠ p.outDepth → d.enabledStep p = some (.decode h)) ∧
    (∀ h, matchTable d.ct d.window = some h → d.out.length = p.outDepth → d.enabledStep p = none) ∧
    (matchTable d.ct d.window = none → d.ended = false → d.lMaxT ≤ d.decodable →
      d.enabledStep p = some .unmatch) ∧
    (matchTable d.ct d.window = none → d.ended = false → d.decodable < d.lMaxT → d.enabledStep p = none) ∧
    (matchTable d.ct d.window = none → d.ended = true → d.decodable = 0 → d.enabledStep p = some .finish) ∧
    (matchTable d.ct d.window = none → d.ended = true → 1 ≤ d.decodable → d.enabledStep p = some .failEnd) ∧
    (d.FrameInv p → d.RangeInv p → 1 ≤ d.lMaxT)

/-- R225: DECODE emits one symbol and consumes its code; `l <= D`, so that POS never passes `R_BITS - PAD`. -/
def Obligations.DecodeEmitsOneSymbol : Prop :=
  ∀ (s : State) (h : Hit), s.dev.fstate = .run →
    matchTable s.dev.ct s.dev.window = some h → s.dev.out.length < s.cfg.outDepth →
    s.engineTurn = { s with
      dev := { s.dev with
        out := s.dev.out ++ [h.sym], pos := s.dev.pos + h.len, buf := s.dev.buf.drop h.len
        symCount := s.dev.symCount + 1 } } ∧
    1 ≤ h.len ∧ h.len ≤ s.dev.decodable

/-- R224: UNMATCH enters DRAIN with UnknownCode pending at `8 + POS`, and flushes BUF and OUT. -/
def Obligations.UnmatchEntersDrain : Prop :=
  ∀ s : State, s.dev.fstate = .run → s.dev.ended = false →
    matchTable s.dev.ct s.dev.window = none → s.dev.lMaxT ≤ s.dev.decodable →
    s.engineTurn = { s with
      dev := { s.dev with
        fstate := .drain, pend := .unknownCode, pendPos := BitVec.ofNat 32 (8 + s.dev.pos), buf := [], out := [] } }

/-- R226: a stall (a match, OUT full) and a wait (no match, END not seen, fewer than LMAX_T bits) change nothing. -/
def Obligations.StallAndWaitChangeNothing : Prop :=
  ∀ s : State, s.dev.fstate = .run →
    ((∃ h, matchTable s.dev.ct s.dev.window = some h) ∧ s.dev.out.length = s.cfg.outDepth ∨
      s.dev.ended = false ∧ matchTable s.dev.ct s.dev.window = none ∧ s.dev.decodable < s.dev.lMaxT) →
    s.dev.enabledStep s.cfg = none ∧ s.engineTurn = s

/-- R227 and R228 with the error entry of R290: after END, with no decodable bit left FINISH keeps OUT, drops BUF,
which by the invariant holds the PAD padding bits, and sets IRQ_STAT.DONE; with bits left that match no code FAIL_END
raises UnknownCode at `8 + POS`. -/
def Obligations.TheEngineEndsTheFrame : Prop :=
  ∀ s : State, s.dev.fstate = .run → s.dev.ended = true →
    (s.dev.decodable = 0 →
      s.engineTurn = { s with
        dev := { s.dev with fstate := .done, buf := [], irqStat := s.dev.irqStat ||| 1#2 } } ∧
      (s.Inv → s.dev.pos = s.dev.rBits - s.dev.pad.toNat ∧ s.dev.buf.length = s.dev.pad.toNat)) ∧
    (1 ≤ s.dev.decodable → matchTable s.dev.ct s.dev.window = none →
      s.engineTurn = { s with
        dev := { s.dev with
          fstate := .error, errCode := .unknownCode, errPos := BitVec.ofNat 32 (8 + s.dev.pos), buf := [], out := []
          pend := .noError, pendPos := 0#32, irqStat := s.dev.irqStat ||| 2#2 } })

/-! ## The reference functions -/

/-- R123: Match gives the least length at which some valid entry of that length has the window's first bits as its
code, and then the least index of such an entry, with its symbol; and it gives None exactly when there is no such
length. -/
def Obligations.MatchIsShortestThenLowest : Prop :=
  ∀ (tbl : List Entry) (w : Bits),
    let hits (l i : Nat) : Prop := 1 ≤ l ∧ l ≤ w.length ∧ (entryAt tbl i).valid = true ∧
      (entryAt tbl i).len.toNat = l ∧ (entryAt tbl i).codeBits = w.take l
    (∀ h, matchTable tbl w = some h →
      hits h.len h.index ∧ h.sym = (entryAt tbl h.index).sym ∧
      (∀ l i, hits l i → h.len ≤ l) ∧ ∀ i, hits h.len i → h.index ≤ i) ∧
    (matchTable tbl w = none ↔ ∀ l i, ¬ hits l i)

/-- R127: a match found stays however many bits follow; a window of LMAX_T or more bits without a match stays
without one; and below LMAX_T either outcome is possible. -/
def Obligations.MatchIsMonotone : Prop :=
  (∀ (tbl : List Entry) (w x : Bits) (h : Hit), matchTable tbl w = some h → matchTable tbl (w ++ x) = some h) ∧
  (∀ (tbl : List Entry) (w x : Bits), matchTable tbl w = none → tableLMax tbl ≤ w.length →
    matchTable tbl (w ++ x) = none) ∧
  ∃ (tbl : List Entry) (w x y : Bits), matchTable tbl w = none ∧ w.length < tableLMax tbl ∧ y ≠ [] ∧
    matchTable tbl (w ++ x) ≠ none ∧ matchTable tbl (w ++ y) = none

/-- R124: DOC's bit-by-bit scan and the code-by-code form with Match compute the same result, for every bit
sequence and every table. -/
def Obligations.BitwiseScanEqualsMatchLoop : Prop :=
  ∀ (s : Bits) (tbl : List Entry), decodeBitwise s tbl = decodeM s tbl

/-- R126: in a prefix code, at most one valid entry's code is a prefix of a bit sequence, and Match returns it. -/
def Obligations.PrefixCodeMatchesAreUnique : Prop :=
  ∀ (tbl : List Entry) (w : Bits), PrefixCode tbl →
    (∀ i j, (entryAt tbl i).valid = true → (entryAt tbl j).valid = true →
      (entryAt tbl i).codeBits <+: w → (entryAt tbl j).codeBits <+: w → i = j) ∧
    ∀ i, (entryAt tbl i).valid = true → (entryAt tbl i).codeBits <+: w →
      matchTable tbl w = some ⟨(entryAt tbl i).len.toNat, (entryAt tbl i).sym, i⟩

/-- The one-symbol table of R129: with the code `0`, `k` zero bits decode to `k` symbols, and the first `1` is an
UnknownCode at its offset. -/
def Obligations.SingleSymbolTableDecodes : Prop :=
  ∀ (tbl : List Entry) (i : Nat) (sym : Symbol),
    entryAt tbl i = ⟨true, 1#6, 0#32, sym⟩ → (∀ j, (entryAt tbl j).valid = true → j = i) →
    ∀ (k : Nat) (rest : Bits),
      decodeM (List.replicate k false) tbl = .ok (List.replicate k sym) ∧
      decodeM (List.replicate k false ++ true :: rest) tbl = .err .unknownCode k

/-- The round trip of R130: what the reference encoder makes of symbols of a non-empty prefix-code table decompresses
to the same symbols. -/
def Obligations.EncodedFramesDecompress : Prop :=
  ∀ (tbl : List Entry) (syms : List Symbol) (bytes : List Byte),
    PrefixCode tbl → 1 ≤ tableCount tbl → encodeFrame syms tbl = some bytes → decompress bytes tbl = .ok syms

/-- The precedence of R125 and R283: truncation, then an empty table, then an unknown code; a stripped payload that
decodes gives its symbols; UnknownCode is converted to a raw-stream position. -/
def Obligations.DecompressPrecedence : Prop :=
  ∀ (bytes : List Byte) (tbl : List Entry),
    (bytes = [] → decompress bytes tbl = .err .truncatedStream 0) ∧
    ∀ (b : Byte) (rest : List Byte), bytes = b :: rest →
      (8 * rest.length < b.toNat → decompress bytes tbl = .err .truncatedStream (8 * bytes.length)) ∧
      (b.toNat ≤ 8 * rest.length →
        (tableCount tbl = 0 → decompress bytes tbl = .err .emptyCodeTable 0) ∧
        (1 ≤ tableCount tbl →
          decompress bytes tbl =
            match decodeM ((bitsOfBytes rest).take (8 * rest.length - b.toNat)) tbl with
            | .ok syms => .ok syms
            | .err kind q => .err kind (8 + q)))

/-- R231's parallel form computes Match: of the entries that hit, the one of least length, then least index. -/
def Obligations.ParallelSelectIsMatch : Prop :=
  ∀ (tbl : List Entry) (w : Bits), selectHit w tbl 0 = matchTable tbl w

/-! ## Invariants -/

/-- The state after reset, of every legal instance, meets the invariant (R35, R310); so does `State.reset`. And after
reset, and in every state of the invariant, ERR_CODE and PEND hold only codes that HUFFDEC can set (R281). -/
def Obligations.ResetMeetsTheInvariant : Prop :=
  (∀ p : Params, p.Legal → (State.resetWith p).Inv) ∧ State.reset.Inv ∧
  (∀ p : Params, (State.resetWith p).dev.HardwareCodes) ∧ ∀ s : State, s.Inv → s.dev.HardwareCodes

/-- Every step but a power-down without reset keeps the invariant: R35's eight items, with the ranges of R128 and the
table form of R150. And every step at all keeps it as it is from a power-down on: unknown until a reset, and then in
force (R295; log entry 11). And no step, a power-down among them, from any state at all in which ERR_CODE and PEND hold
only codes that HUFFDEC can set, sets another: never 1, 2 or 6 (R281). -/
def Obligations.StepKeepsTheInvariant : Prop :=
  (∀ s t : State, s.Inv → step s = .next t → (∀ rest, s.schedule ≠ .powerDown :: rest) → t.Inv) ∧
  (∀ s t : State, s.Sound → step s = .next t → t.Sound) ∧
  ∀ s t : State, s.dev.HardwareCodes → step s = .next t → t.dev.HardwareCodes

/-- Every step but a power-down without reset keeps what the record and the block say of the frame (the inductive form
of R207 and R230). And every step at all keeps it as it is from a power-down on: unknown until a reset, and then in
force (R295; log entry 11). -/
def Obligations.StepKeepsTheMeaningOfTheFrame : Prop :=
  (∀ (o : Observer) (s t : State), s.Inv → o.Meaning s.dev → step s = .next t →
    (∀ rest, s.schedule ≠ .powerDown :: rest) → (o.step s).Meaning t.dev) ∧
  ∀ (o : Observer) (s t : State), s.Sound → (s.lost = false → o.Meaning s.dev) → step s = .next t →
    t.lost = false → (o.step s).Meaning t.dev

/-- R230, for any host and any interleaving: whenever a run from reset, of any legal instance and any schedule, with no
power-down since its last reset (log entry 11), stands in DONE, the symbols read and still to be read are exactly `Decompress` of the bytes accepted, and the
counters are as R230 says; whenever it stands in ERROR by an error of DOC's decoder, code and position are those
`Decompress` gives, and the symbols read are a prefix of what DecodeM emitted. -/
def Obligations.EveryRunDecompressesItsFrames : Prop :=
  ∀ (p : Params) (events : List Event) (n : Nat), p.Legal →
    ∀ (o : Observer) (s : State),
      observedRun n Observer.fresh { State.resetWith p with schedule := events } = (o, s) → s.lost = false →
      (s.dev.fstate = .done →
        decompress o.bytes o.table = .ok (o.popped ++ s.dev.out) ∧
        s.dev.symCount = (o.popped ++ s.dev.out).length ∧ s.dev.errCode = .noError ∧
        s.dev.bytesRx = o.bytes.length ∧
        ∃ b rest, o.bytes = b :: rest ∧ s.dev.pos = 8 * rest.length - b.toNat) ∧
      (s.dev.fstate = .error →
        (s.dev.errCode = .truncatedStream ∨ s.dev.errCode = .unknownCode ∨ s.dev.errCode = .emptyCodeTable →
          decompress o.bytes o.table = .err s.dev.errCode s.dev.errPos.toNat) ∧
        o.popped <+: frameSymbols o.bytes o.table)

/-! ## Whole-machine rules -/

/-- R185: the edges of FSTATE. No engine turn, byte or single command moves FSTATE but along an edge of the table,
under its condition, no other instruction moves it, and reset gives IDLE. A CTRL write is a sequence of single
commands (`ControlRunsInOrder`). -/
def Obligations.FrameStateEdges : Prop :=
  (∀ (i : Instr) (s t : State), exec i s = .next t → (∀ v, i ≠ .wrCtrl v) → (∀ v, i ≠ .wrDataIn v) →
    t.dev.fstate = s.dev.fstate) ∧
  (∀ (v : Word) (s t : State), s.Inv → exec (.wrDataIn v) s = .next t → t.dev.fstate ≠ s.dev.fstate →
    (s.dev.fstate = .header ∧ t.dev.fstate = .run ∧ 1 ≤ s.dev.ctCount) ∨
    (s.dev.fstate = .header ∧ t.dev.fstate = .drain ∧ s.dev.ctCount = 0 ∧ t.dev.pend = .emptyCodeTable) ∨
    (s.dev.fstate = .run ∧ t.dev.fstate = .error ∧ t.dev.errCode = .inputOverrun ∧
      s.cfg.bufBits - s.dev.buf.length < 8) ∨
    ((s.dev.fstate = .run ∨ s.dev.fstate = .drain) ∧ t.dev.fstate = .error ∧ t.dev.errCode = .frameTooLong ∧
      s.dev.bytesRx = s.cfg.maxFrameBytes)) ∧
  (∀ s : State, s.engineTurn.dev.fstate ≠ s.dev.fstate →
    s.dev.fstate = .run ∧
    ((s.engineTurn.dev.fstate = .drain ∧ s.engineTurn.dev.pend = .unknownCode ∧ s.dev.ended = false) ∨
      (s.engineTurn.dev.fstate = .done ∧ s.dev.ended = true ∧ s.dev.decodable = 0) ∨
      (s.engineTurn.dev.fstate = .error ∧ s.engineTurn.dev.errCode = .unknownCode ∧ s.dev.ended = true ∧
        1 ≤ s.dev.decodable ∧ matchTable s.dev.ct s.dev.window = none))) ∧
  (∀ s t : State, exec (.wrCtrl 1#32) s = .next t → t.dev.fstate ≠ s.dev.fstate →
    (s.dev.fstate = .idle ∨ s.dev.fstate = .done ∨ s.dev.fstate = .error) ∧ t.dev.fstate = .header) ∧
  (∀ s t : State, exec (.wrCtrl 2#32) s = .next t → t.dev.fstate ≠ s.dev.fstate →
    t.dev.fstate = .error ∧
    ((s.dev.fstate = .header ∧ t.dev.errCode = .truncatedStream) ∨
      (s.dev.fstate = .run ∧ s.dev.rBits < s.dev.pad.toNat ∧ t.dev.errCode = .truncatedStream) ∨
      (s.dev.fstate = .drain ∧ (t.dev.errCode = .truncatedStream ∨ t.dev.errCode = s.dev.pend)))) ∧
  (∀ s t : State, exec (.wrCtrl 4#32) s = .next t → t.dev.fstate = .idle) ∧
  (∀ s t : State, exec (.wrCtrl 8#32) s = .next t → t.dev.fstate = s.dev.fstate) ∧
  ∀ s : State, s.platformReset.dev.fstate = .idle

/-- The error entry of R290, wherever it is taken: a step that enters ERROR, and is no power-down, leaves BUF and OUT empty, nothing
pending, IRQ_STAT.ERR set, IRQ_EN as it was and a code of R282; one that is not a CTRL write also keeps the table
and what is kept for diagnosis. -/
def Obligations.EnteringErrorIsTheErrorEntry : Prop :=
  ∀ s t : State, s.Inv → step s = .next t → s.dev.fstate ≠ .error → t.dev.fstate = .error →
    (∀ rest, s.schedule ≠ .powerDown :: rest) →
    t.dev.buf = [] ∧ t.dev.out = [] ∧ t.dev.pend = .noError ∧ t.dev.pendPos = 0#32 ∧
    t.dev.irqStat.getLsbD 1 = true ∧ t.dev.irqStat.getLsbD 0 = s.dev.irqStat.getLsbD 0 ∧
    t.dev.irqEn = s.dev.irqEn ∧
    t.dev.errCode ∈ [ErrCode.truncatedStream, .unknownCode, .emptyCodeTable, .inputOverrun, .frameTooLong] ∧
    ((∀ a rest v, s.schedule = .access a :: rest → arrive s.cfg a = .word v → ∀ c, decode v ≠ .wrCtrl c) →
      t.dev.ct = s.dev.ct ∧ t.dev.ctWerr = s.dev.ctWerr ∧ t.dev.cmdErr = s.dev.cmdErr ∧ t.dev.pad = s.dev.pad ∧
      t.dev.padValid = s.dev.padValid ∧ t.dev.bytesRx = s.dev.bytesRx ∧ t.dev.pos = s.dev.pos ∧
      t.dev.symCount = s.dev.symCount ∧ t.dev.ended = s.dev.ended)

/-- R286: in ERROR no engine step changes anything, a byte or an END only sets CMD_ERR, and no instruction but a
CTRL write with START or ABORT changes FSTATE, ERR_CODE or ERR_POS. -/
def Obligations.ErrorsAreFinal : Prop :=
  ∀ s : State, s.dev.fstate = .error →
    s.engineTurn = s ∧
    (∀ v, exec (.wrDataIn v) s = .next (s.written { s.dev with cmdErr := true })) ∧
    exec (.wrCtrl 2#32) s = .next (s.written { s.dev with cmdErr := true }) ∧
    ∀ (i : Instr) (t : State), exec i s = .next t →
      (∀ v, i = .wrCtrl v → v.getLsbD 0 = false ∧ v.getLsbD 2 = false) →
      t.dev.fstate = .error ∧ t.dev.errCode = s.dev.errCode ∧ t.dev.errPos = s.dev.errPos

/-- R83: in a frame no step changes the table, but the platform's (a reset or a power-down) and a CTRL write with ABORT
(which ends the frame first). -/
def Obligations.TableIsLockedDuringAFrame : Prop :=
  ∀ s t : State, (s.dev.fstate = .header ∨ s.dev.fstate = .run ∨ s.dev.fstate = .drain) → step s = .next t →
    s.platformTurn = false →
    (∀ a rest v c, s.schedule = .access a :: rest → arrive s.cfg a = .word v → decode v = .wrCtrl c →
      c.getLsbD 2 = false) →
    t.dev.ct = s.dev.ct

/-- The interrupt status is sticky: a bit that is set stays set over every step but the platform's (a reset or a
power-down) and a WR_IRQ_STAT that writes it as 1, in particular over START and ABORT (R287). -/
def Obligations.InterruptStatusIsSticky : Prop :=
  ∀ (s t : State) (k : Nat), step s = .next t → s.dev.irqStat.getLsbD k = true →
    s.platformTurn = false →
    (∀ a rest v c, s.schedule = .access a :: rest → arrive s.cfg a = .word v → decode v = .wrIrqStat c →
      c.getLsbD k = false) →
    t.dev.irqStat.getLsbD k = true

/-- What R80 says of the counters: over every step that is neither the platform's nor a CTRL write, POS, SYM_COUNT and
BYTES_RX do not fall. -/
def Obligations.CountersOnlyGrowInAFrame : Prop :=
  ∀ s t : State, s.Inv → step s = .next t →
    s.platformTurn = false →
    (∀ a rest v c, s.schedule = .access a :: rest → arrive s.cfg a = .word v → decode v ≠ .wrCtrl c) →
    s.dev.pos ≤ t.dev.pos ∧ s.dev.symCount ≤ t.dev.symCount ∧ s.dev.bytesRx ≤ t.dev.bytesRx

/-- No step changes the parameters of the instance (R2, R5), and every step answers a next state. -/
def Obligations.EveryStepCompletes : Prop :=
  ∀ s : State, ∃ t, step s = .next t ∧ t.cfg = s.cfg ∧ t.schedule = s.schedule.tail

/-! ## Progress -/

/-- The argument of R322: in RUN, before END and below the frame limit, if IN_READY = 0 and OUT is not full then
DECODE or UNMATCH is enabled. -/
def Obligations.ClosedInputMeansTheEngineCanStep : Prop :=
  ∀ s : State, s.Inv → s.dev.fstate = .run → s.dev.ended = false → s.dev.bytesRx < s.cfg.maxFrameBytes →
    s.dev.inReady s.cfg = false → s.dev.out.length ≠ s.cfg.outDepth →
    (∃ h, s.dev.enabledStep s.cfg = some (.decode h)) ∨ s.dev.enabledStep s.cfg = some .unmatch

/-- R322: with a host that pops before each turn of the engine, a frame in RUN whose END is accepted is in DONE or
ERROR after `D + 1` turns. -/
def Obligations.AFrameEndsOnceItsStreamEnds : Prop :=
  ∀ s : State, s.Inv → s.dev.fstate = .run → s.dev.ended = true →
    s.schedule = poppingHost s.cfg (s.dev.decodable + 1) →
    ∃ t, Host.Core.run Sys2Proof.core (2 * (s.dev.decodable + 1)) s = .next t ∧
      (t.dev.fstate = .done ∨ t.dev.fstate = .error)

/-- R322: with such a host, a frame in RUN before END and below the frame limit has IN_READY = 1 after some of `D`
turns, in RUN or DRAIN. -/
def Obligations.TheInputOpensAgain : Prop :=
  ∀ s : State, s.Inv → s.dev.fstate = .run → s.dev.ended = false → s.dev.bytesRx < s.cfg.maxFrameBytes →
    s.schedule = poppingHost s.cfg s.dev.decodable →
    ∃ k t, k ≤ s.dev.decodable ∧ Host.Core.run Sys2Proof.core (2 * k) s = .next t ∧ t.dev.inReady t.cfg = true ∧
      (t.dev.fstate = .run ∨ t.dev.fstate = .drain)

/-- R315: from a state in RUN before END, a host that writes at most `(BUF_BITS - u) / 8` bytes and stays within the
frame limit meets no InputOverrun, whatever the engine does and whether or not the host pops in between. -/
def Obligations.TheInputBudgetIsSafe : Prop :=
  ∀ (s : State) (n : Nat), s.Inv → s.dev.fstate = .run → s.dev.ended = false →
    (∀ e ∈ s.schedule, e = .engine ∨ e = opPop s.cfg ∨ ∃ b, e = opPush s.cfg b) →
    (s.schedule.filter (fun e => decide (e ≠ .engine ∧ e ≠ opPop s.cfg))).length ≤
      (s.cfg.bufBits - s.dev.buf.length) / 8 →
    s.dev.bytesRx + (s.schedule.filter (fun e => decide (e ≠ .engine ∧ e ≠ opPop s.cfg))).length ≤
      s.cfg.maxFrameBytes →
    ∃ t, Host.Core.run Sys2Proof.core n s = .next t ∧ t.dev.fstate ≠ .error ∧ t.dev.errCode ≠ .inputOverrun

/-! ## Power -/

/-- R295 and item I9: a power-down without reset leaves the table and every other variable at values made of the
opaque `Config.freeVariable` and of nothing the block held before: equal parameters and counts of free values give equal
blocks. They keep to the types of R32 and to the codes R281 allows, and every such block is what some values of the
free numbers give, so that any value is allowed. The record of the power-down stays until a reset, which gives the
reset state and the invariant from any state; the parameters stay. Outside a frame nothing changes but by a transaction or the platform.
That every variable is lost with the table, and the field `lost`, are the model's choices (log entry 11), as are the
schedule and the answer after a power-down (log entries 3 and 8). -/
def Obligations.PowerDownNeedsAReset : Prop :=
  (∀ s : State,
    s.powerDown.cfg = s.cfg ∧ s.powerDown.schedule = s.schedule ∧ s.powerDown.reply = none ∧
    s.powerDown.lost = true ∧ s.powerDown.freeUses = s.freeUses + 1 ∧
    s.powerDown.dev = Dev.lost s.cfg (Config.freeVariable s.freeUses) ∧ s.powerDown.dev.Typed s.cfg) ∧
  (∀ s s' : State, s'.cfg = s.cfg → s'.freeUses = s.freeUses → s'.powerDown.dev = s.powerDown.dev) ∧
  (∀ (p : Params) (d : Dev), d.Typed p → ∃ free : Nat → Nat → Nat, Dev.lost p free = d) ∧
  (∀ s t : State, s.lost = true → step s = .next t →
    (∀ rest, s.schedule ≠ .reset :: rest ∧ ∀ a, s.schedule ≠ .accessInReset a :: rest) → t.lost = true) ∧
  (∀ s : State, s.platformReset.lost = false ∧ s.powerDown.platformReset.dev = s.platformReset.dev ∧
    (s.cfg.Legal → s.platformReset.Inv)) ∧
  ∀ s : State, (s.dev.fstate = .idle ∨ s.dev.fstate = .done ∨ s.dev.fstate = .error) →
    (s.schedule = [] → step s = .next s) ∧
    ∀ rest, s.schedule = .engine :: rest → step s = .next { s with schedule := rest }
end

