-- ==== Sys2Proof/Laws/Decode.lean ====
section
/-!
SUPPORT. The fields of a transaction word, and what decoding a word made of fields gives.
-/

namespace Sys2Proof

/-- A transaction word bit by bit (R90). -/
theorem mkTWord_getLsbD (dir : Dir) (off : Offset) (data : Word) (i : Nat) :
    (mkTWord dir off data).getLsbD i =
      if i < 32 then data.getLsbD i
      else if i - 32 < 7 then off.getLsbD (i - 32) else dir.wBit.getLsbD (i - 32 - 7) := by
  have h1 := BitVec.getLsbD_append (x := dir.wBit ++ off) (y := data) (i := i)
  have h2 := BitVec.getLsbD_append (x := dir.wBit) (y := off) (i := i - 32)
  rw [h2] at h1
  exact h1

theorem Dir.ofBit_wBit (dir : Dir) : (if dir.wBit.getLsbD 0 = true then Dir.write else Dir.read) = dir := by
  cases dir <;> rfl

@[simp] theorem twDir_mkTWord (dir : Dir) (off : Offset) (data : Word) : twDir (mkTWord dir off data) = dir := by
  rw [twDir, mkTWord_getLsbD]
  exact dir.ofBit_wBit

@[simp] theorem twOff_mkTWord (dir : Dir) (off : Offset) (data : Word) : twOff (mkTWord dir off data) = off := by
  apply BitVec.eq_of_getLsbD_eq
  intro i hi
  rw [twOff, BitVec.getLsbD_extractLsb', mkTWord_getLsbD]
  simp [hi]

@[simp] theorem twData_mkTWord (dir : Dir) (off : Offset) (data : Word) :
    twData (mkTWord dir off data) = data := by
  apply BitVec.eq_of_getLsbD_eq
  intro i hi
  rw [twData, BitVec.getLsbD_extractLsb', mkTWord_getLsbD]
  simp [hi]

theorem wBit_twDir (t : TWord) : (twDir t).wBit.getLsbD 0 = t.getLsbD 39 := by
  cases h : t.getLsbD 39 <;> simp only [twDir, h] <;> rfl

/-- A transaction word is its three fields. -/
theorem mkTWord_fields (t : TWord) : mkTWord (twDir t) (twOff t) (twData t) = t := by
  apply BitVec.eq_of_getLsbD_eq
  intro i hi
  rw [mkTWord_getLsbD, twOff, twData, BitVec.getLsbD_extractLsb', BitVec.getLsbD_extractLsb']
  by_cases h1 : i < 32
  · simp [h1]
  · by_cases h2 : i - 32 < 7
    · simp [h1, h2, show 32 + (i - 32) = i by omega]
    · obtain rfl : i = 39 := by omega
      simpa using wBit_twDir t

/-- Decoding a word made of fields is the selection by the fields (R93). -/
@[simp] theorem decode_mkTWord (dir : Dir) (off : Offset) (data : Word) :
    decode (mkTWord dir off data) = select dir off data := by
  simp [decode]

/-- The transaction word of an instruction has the instruction's fields (R90). -/
theorem encode_fields (i : Instr) :
    twDir (encode i) = i.dir ∧ twOff (encode i) = i.off ∧ twData (encode i) = i.data := by
  simp [encode]

end Sys2Proof
end

