-- ==== Sys2Proof/Laws/State.lean ====
section
/-!
SUPPORT. One lemma per field per update of the state, so that no later proof unfolds a record update.
-/

namespace Sys2Proof.Machine

variable (s : State) (d : Dev)

/-! ### `State.okRead` -/

@[simp] theorem State.okRead_cfg (v : Word) : (s.okRead v).cfg = s.cfg := rfl
@[simp] theorem State.okRead_dev (v : Word) : (s.okRead v).dev = s.dev := rfl
@[simp] theorem State.okRead_schedule (v : Word) : (s.okRead v).schedule = s.schedule := rfl
@[simp] theorem State.okRead_reply (v : Word) : (s.okRead v).reply = some { resp := .okay, rdata := some v } := rfl
@[simp] theorem State.okRead_freeUses (v : Word) : (s.okRead v).freeUses = s.freeUses := rfl
@[simp] theorem State.okRead_lost (v : Word) : (s.okRead v).lost = s.lost := rfl

/-! ### `State.okWrite` -/

@[simp] theorem State.okWrite_cfg (e : Dev) : (s.okWrite e).cfg = s.cfg := rfl
@[simp] theorem State.okWrite_dev (e : Dev) : (s.okWrite e).dev = e := rfl
@[simp] theorem State.okWrite_schedule (e : Dev) : (s.okWrite e).schedule = s.schedule := rfl
@[simp] theorem State.okWrite_reply (e : Dev) : (s.okWrite e).reply = some { resp := .okay, rdata := none } := rfl
@[simp] theorem State.okWrite_freeUses (e : Dev) : (s.okWrite e).freeUses = s.freeUses := rfl
@[simp] theorem State.okWrite_lost (e : Dev) : (s.okWrite e).lost = s.lost := rfl

/-! ### `State.answered` -/

@[simp] theorem State.answered_cfg (v : Word) : (s.answered v).cfg = s.cfg := rfl
@[simp] theorem State.answered_dev (v : Word) : (s.answered v).dev = s.dev := rfl
@[simp] theorem State.answered_schedule (v : Word) : (s.answered v).schedule = s.schedule := rfl
@[simp] theorem State.answered_reply (v : Word) : (s.answered v).reply = some { resp := .okay, rdata := some v } := rfl
@[simp] theorem State.answered_freeUses (v : Word) : (s.answered v).freeUses = s.freeUses := rfl
@[simp] theorem State.answered_lost (v : Word) : (s.answered v).lost = s.lost := rfl

/-! ### `State.written` -/

@[simp] theorem State.written_cfg (e : Dev) : (s.written e).cfg = s.cfg := rfl
@[simp] theorem State.written_dev (e : Dev) : (s.written e).dev = e := rfl
@[simp] theorem State.written_schedule (e : Dev) : (s.written e).schedule = s.schedule := rfl
@[simp] theorem State.written_reply (e : Dev) : (s.written e).reply = some { resp := .okay, rdata := none } := rfl
@[simp] theorem State.written_freeUses (e : Dev) : (s.written e).freeUses = s.freeUses := rfl
@[simp] theorem State.written_lost (e : Dev) : (s.written e).lost = s.lost := rfl

/-! ### `State.busError` -/

@[simp] theorem State.busError_cfg (dir : Dir) : (s.busError dir).cfg = s.cfg := rfl
@[simp] theorem State.busError_dev (dir : Dir) : (s.busError dir).dev = s.dev := rfl
@[simp] theorem State.busError_schedule (dir : Dir) : (s.busError dir).schedule = s.schedule := rfl
@[simp] theorem State.busError_reply (dir : Dir) : (s.busError dir).reply = some { resp := .busError, rdata := match dir with | .read => some 0#32 | .write => none } := rfl
@[simp] theorem State.busError_freeUses (dir : Dir) : (s.busError dir).freeUses = s.freeUses := rfl
@[simp] theorem State.busError_lost (dir : Dir) : (s.busError dir).lost = s.lost := rfl

/-! ### `State.platformReset` -/

@[simp] theorem State.platformReset_cfg : s.platformReset.cfg = s.cfg := rfl
@[simp] theorem State.platformReset_dev : s.platformReset.dev = Dev.reset s.cfg := rfl
@[simp] theorem State.platformReset_schedule : s.platformReset.schedule = s.schedule := rfl
@[simp] theorem State.platformReset_reply : s.platformReset.reply = none := rfl
@[simp] theorem State.platformReset_freeUses : s.platformReset.freeUses = s.freeUses := rfl
@[simp] theorem State.platformReset_lost : s.platformReset.lost = false := rfl

/-! ### `State.powerDown` -/

@[simp] theorem State.powerDown_cfg : s.powerDown.cfg = s.cfg := rfl
@[simp] theorem State.powerDown_dev : s.powerDown.dev = Dev.lost s.cfg (Config.freeVariable s.freeUses) := rfl
@[simp] theorem State.powerDown_schedule : s.powerDown.schedule = s.schedule := rfl
@[simp] theorem State.powerDown_reply : s.powerDown.reply = none := rfl
@[simp] theorem State.powerDown_freeUses : s.powerDown.freeUses = s.freeUses + 1 := rfl
@[simp] theorem State.powerDown_lost : s.powerDown.lost = true := rfl

/-! ### `State.engineTurn` -/

@[simp] theorem State.engineTurn_cfg : s.engineTurn.cfg = s.cfg := rfl
@[simp] theorem State.engineTurn_dev : s.engineTurn.dev = s.dev.engineTurn s.cfg := rfl
@[simp] theorem State.engineTurn_schedule : s.engineTurn.schedule = s.schedule := rfl
@[simp] theorem State.engineTurn_reply : s.engineTurn.reply = s.reply := rfl
@[simp] theorem State.engineTurn_freeUses : s.engineTurn.freeUses = s.freeUses := rfl
@[simp] theorem State.engineTurn_lost : s.engineTurn.lost = s.lost := rfl

/-! ### `Dev.frameClear` -/

@[simp] theorem Dev.frameClear_fstate : d.frameClear.fstate = d.fstate := rfl
@[simp] theorem Dev.frameClear_ct : d.frameClear.ct = d.ct := rfl
@[simp] theorem Dev.frameClear_ctIndex : d.frameClear.ctIndex = d.ctIndex := rfl
@[simp] theorem Dev.frameClear_ctStage : d.frameClear.ctStage = d.ctStage := rfl
@[simp] theorem Dev.frameClear_pad : d.frameClear.pad = 0#8 := rfl
@[simp] theorem Dev.frameClear_padValid : d.frameClear.padValid = false := rfl
@[simp] theorem Dev.frameClear_bytesRx : d.frameClear.bytesRx = 0 := rfl
@[simp] theorem Dev.frameClear_pos : d.frameClear.pos = 0 := rfl
@[simp] theorem Dev.frameClear_buf : d.frameClear.buf = [] := rfl
@[simp] theorem Dev.frameClear_ended : d.frameClear.ended = false := rfl
@[simp] theorem Dev.frameClear_pend : d.frameClear.pend = .noError := rfl
@[simp] theorem Dev.frameClear_pendPos : d.frameClear.pendPos = 0#32 := rfl
@[simp] theorem Dev.frameClear_out : d.frameClear.out = [] := rfl
@[simp] theorem Dev.frameClear_symCount : d.frameClear.symCount = 0 := rfl
@[simp] theorem Dev.frameClear_errCode : d.frameClear.errCode = .noError := rfl
@[simp] theorem Dev.frameClear_errPos : d.frameClear.errPos = 0#32 := rfl
@[simp] theorem Dev.frameClear_ctWerr : d.frameClear.ctWerr = d.ctWerr := rfl
@[simp] theorem Dev.frameClear_cmdErr : d.frameClear.cmdErr = d.cmdErr := rfl
@[simp] theorem Dev.frameClear_irqEn : d.frameClear.irqEn = d.irqEn := rfl
@[simp] theorem Dev.frameClear_irqStat : d.frameClear.irqStat = d.irqStat := rfl

/-! ### `Dev.abort` -/

@[simp] theorem Dev.abort_fstate : d.abort.fstate = .idle := rfl
@[simp] theorem Dev.abort_ct : d.abort.ct = d.ct := rfl
@[simp] theorem Dev.abort_ctIndex : d.abort.ctIndex = d.ctIndex := rfl
@[simp] theorem Dev.abort_ctStage : d.abort.ctStage = d.ctStage := rfl
@[simp] theorem Dev.abort_pad : d.abort.pad = 0#8 := rfl
@[simp] theorem Dev.abort_padValid : d.abort.padValid = false := rfl
@[simp] theorem Dev.abort_bytesRx : d.abort.bytesRx = 0 := rfl
@[simp] theorem Dev.abort_pos : d.abort.pos = 0 := rfl
@[simp] theorem Dev.abort_buf : d.abort.buf = [] := rfl
@[simp] theorem Dev.abort_ended : d.abort.ended = false := rfl
@[simp] theorem Dev.abort_pend : d.abort.pend = .noError := rfl
@[simp] theorem Dev.abort_pendPos : d.abort.pendPos = 0#32 := rfl
@[simp] theorem Dev.abort_out : d.abort.out = [] := rfl
@[simp] theorem Dev.abort_symCount : d.abort.symCount = 0 := rfl
@[simp] theorem Dev.abort_errCode : d.abort.errCode = .noError := rfl
@[simp] theorem Dev.abort_errPos : d.abort.errPos = 0#32 := rfl
@[simp] theorem Dev.abort_ctWerr : d.abort.ctWerr = d.ctWerr := rfl
@[simp] theorem Dev.abort_cmdErr : d.abort.cmdErr = d.cmdErr := rfl
@[simp] theorem Dev.abort_irqEn : d.abort.irqEn = d.irqEn := rfl
@[simp] theorem Dev.abort_irqStat : d.abort.irqStat = d.irqStat := rfl

/-! ### `Dev.frameError` -/

@[simp] theorem Dev.frameError_fstate (code : ErrCode) (pos : Word) : (d.frameError code pos).fstate = .error := rfl
@[simp] theorem Dev.frameError_ct (code : ErrCode) (pos : Word) : (d.frameError code pos).ct = d.ct := rfl
@[simp] theorem Dev.frameError_ctIndex (code : ErrCode) (pos : Word) : (d.frameError code pos).ctIndex = d.ctIndex := rfl
@[simp] theorem Dev.frameError_ctStage (code : ErrCode) (pos : Word) : (d.frameError code pos).ctStage = d.ctStage := rfl
@[simp] theorem Dev.frameError_pad (code : ErrCode) (pos : Word) : (d.frameError code pos).pad = d.pad := rfl
@[simp] theorem Dev.frameError_padValid (code : ErrCode) (pos : Word) : (d.frameError code pos).padValid = d.padValid := rfl
@[simp] theorem Dev.frameError_bytesRx (code : ErrCode) (pos : Word) : (d.frameError code pos).bytesRx = d.bytesRx := rfl
@[simp] theorem Dev.frameError_pos (code : ErrCode) (pos : Word) : (d.frameError code pos).pos = d.pos := rfl
@[simp] theorem Dev.frameError_buf (code : ErrCode) (pos : Word) : (d.frameError code pos).buf = [] := rfl
@[simp] theorem Dev.frameError_ended (code : ErrCode) (pos : Word) : (d.frameError code pos).ended = d.ended := rfl
@[simp] theorem Dev.frameError_pend (code : ErrCode) (pos : Word) : (d.frameError code pos).pend = .noError := rfl
@[simp] theorem Dev.frameError_pendPos (code : ErrCode) (pos : Word) : (d.frameError code pos).pendPos = 0#32 := rfl
@[simp] theorem Dev.frameError_out (code : ErrCode) (pos : Word) : (d.frameError code pos).out = [] := rfl
@[simp] theorem Dev.frameError_symCount (code : ErrCode) (pos : Word) : (d.frameError code pos).symCount = d.symCount := rfl
@[simp] theorem Dev.frameError_errCode (code : ErrCode) (pos : Word) : (d.frameError code pos).errCode = code := rfl
@[simp] theorem Dev.frameError_errPos (code : ErrCode) (pos : Word) : (d.frameError code pos).errPos = pos := rfl
@[simp] theorem Dev.frameError_ctWerr (code : ErrCode) (pos : Word) : (d.frameError code pos).ctWerr = d.ctWerr := rfl
@[simp] theorem Dev.frameError_cmdErr (code : ErrCode) (pos : Word) : (d.frameError code pos).cmdErr = d.cmdErr := rfl
@[simp] theorem Dev.frameError_irqEn (code : ErrCode) (pos : Word) : (d.frameError code pos).irqEn = d.irqEn := rfl
@[simp] theorem Dev.frameError_irqStat (code : ErrCode) (pos : Word) : (d.frameError code pos).irqStat = d.irqStat ||| BitVec.twoPow 2 1 := rfl

/-! ### `Dev.pushOut` -/

@[simp] theorem Dev.pushOut_fstate (s : Symbol) : (d.pushOut s).fstate = d.fstate := rfl
@[simp] theorem Dev.pushOut_ct (s : Symbol) : (d.pushOut s).ct = d.ct := rfl
@[simp] theorem Dev.pushOut_ctIndex (s : Symbol) : (d.pushOut s).ctIndex = d.ctIndex := rfl
@[simp] theorem Dev.pushOut_ctStage (s : Symbol) : (d.pushOut s).ctStage = d.ctStage := rfl
@[simp] theorem Dev.pushOut_pad (s : Symbol) : (d.pushOut s).pad = d.pad := rfl
@[simp] theorem Dev.pushOut_padValid (s : Symbol) : (d.pushOut s).padValid = d.padValid := rfl
@[simp] theorem Dev.pushOut_bytesRx (s : Symbol) : (d.pushOut s).bytesRx = d.bytesRx := rfl
@[simp] theorem Dev.pushOut_pos (s : Symbol) : (d.pushOut s).pos = d.pos := rfl
@[simp] theorem Dev.pushOut_buf (s : Symbol) : (d.pushOut s).buf = d.buf := rfl
@[simp] theorem Dev.pushOut_ended (s : Symbol) : (d.pushOut s).ended = d.ended := rfl
@[simp] theorem Dev.pushOut_pend (s : Symbol) : (d.pushOut s).pend = d.pend := rfl
@[simp] theorem Dev.pushOut_pendPos (s : Symbol) : (d.pushOut s).pendPos = d.pendPos := rfl
@[simp] theorem Dev.pushOut_out (s : Symbol) : (d.pushOut s).out = d.out ++ [s] := rfl
@[simp] theorem Dev.pushOut_symCount (s : Symbol) : (d.pushOut s).symCount = d.symCount := rfl
@[simp] theorem Dev.pushOut_errCode (s : Symbol) : (d.pushOut s).errCode = d.errCode := rfl
@[simp] theorem Dev.pushOut_errPos (s : Symbol) : (d.pushOut s).errPos = d.errPos := rfl
@[simp] theorem Dev.pushOut_ctWerr (s : Symbol) : (d.pushOut s).ctWerr = d.ctWerr := rfl
@[simp] theorem Dev.pushOut_cmdErr (s : Symbol) : (d.pushOut s).cmdErr = d.cmdErr := rfl
@[simp] theorem Dev.pushOut_irqEn (s : Symbol) : (d.pushOut s).irqEn = d.irqEn := rfl
@[simp] theorem Dev.pushOut_irqStat (s : Symbol) : (d.pushOut s).irqStat = d.irqStat := rfl

/-! ### `Dev.popOut` -/

@[simp] theorem Dev.popOut_fstate : d.popOut.fstate = d.fstate := rfl
@[simp] theorem Dev.popOut_ct : d.popOut.ct = d.ct := rfl
@[simp] theorem Dev.popOut_ctIndex : d.popOut.ctIndex = d.ctIndex := rfl
@[simp] theorem Dev.popOut_ctStage : d.popOut.ctStage = d.ctStage := rfl
@[simp] theorem Dev.popOut_pad : d.popOut.pad = d.pad := rfl
@[simp] theorem Dev.popOut_padValid : d.popOut.padValid = d.padValid := rfl
@[simp] theorem Dev.popOut_bytesRx : d.popOut.bytesRx = d.bytesRx := rfl
@[simp] theorem Dev.popOut_pos : d.popOut.pos = d.pos := rfl
@[simp] theorem Dev.popOut_buf : d.popOut.buf = d.buf := rfl
@[simp] theorem Dev.popOut_ended : d.popOut.ended = d.ended := rfl
@[simp] theorem Dev.popOut_pend : d.popOut.pend = d.pend := rfl
@[simp] theorem Dev.popOut_pendPos : d.popOut.pendPos = d.pendPos := rfl
@[simp] theorem Dev.popOut_out : d.popOut.out = d.out.tail := rfl
@[simp] theorem Dev.popOut_symCount : d.popOut.symCount = d.symCount := rfl
@[simp] theorem Dev.popOut_errCode : d.popOut.errCode = d.errCode := rfl
@[simp] theorem Dev.popOut_errPos : d.popOut.errPos = d.errPos := rfl
@[simp] theorem Dev.popOut_ctWerr : d.popOut.ctWerr = d.ctWerr := rfl
@[simp] theorem Dev.popOut_cmdErr : d.popOut.cmdErr = d.cmdErr := rfl
@[simp] theorem Dev.popOut_irqEn : d.popOut.irqEn = d.irqEn := rfl
@[simp] theorem Dev.popOut_irqStat : d.popOut.irqStat = d.irqStat := rfl

/-! ### `Dev.raiseIrq` -/

@[simp] theorem Dev.raiseIrq_fstate (k : Nat) : (d.raiseIrq k).fstate = d.fstate := rfl
@[simp] theorem Dev.raiseIrq_ct (k : Nat) : (d.raiseIrq k).ct = d.ct := rfl
@[simp] theorem Dev.raiseIrq_ctIndex (k : Nat) : (d.raiseIrq k).ctIndex = d.ctIndex := rfl
@[simp] theorem Dev.raiseIrq_ctStage (k : Nat) : (d.raiseIrq k).ctStage = d.ctStage := rfl
@[simp] theorem Dev.raiseIrq_pad (k : Nat) : (d.raiseIrq k).pad = d.pad := rfl
@[simp] theorem Dev.raiseIrq_padValid (k : Nat) : (d.raiseIrq k).padValid = d.padValid := rfl
@[simp] theorem Dev.raiseIrq_bytesRx (k : Nat) : (d.raiseIrq k).bytesRx = d.bytesRx := rfl
@[simp] theorem Dev.raiseIrq_pos (k : Nat) : (d.raiseIrq k).pos = d.pos := rfl
@[simp] theorem Dev.raiseIrq_buf (k : Nat) : (d.raiseIrq k).buf = d.buf := rfl
@[simp] theorem Dev.raiseIrq_ended (k : Nat) : (d.raiseIrq k).ended = d.ended := rfl
@[simp] theorem Dev.raiseIrq_pend (k : Nat) : (d.raiseIrq k).pend = d.pend := rfl
@[simp] theorem Dev.raiseIrq_pendPos (k : Nat) : (d.raiseIrq k).pendPos = d.pendPos := rfl
@[simp] theorem Dev.raiseIrq_out (k : Nat) : (d.raiseIrq k).out = d.out := rfl
@[simp] theorem Dev.raiseIrq_symCount (k : Nat) : (d.raiseIrq k).symCount = d.symCount := rfl
@[simp] theorem Dev.raiseIrq_errCode (k : Nat) : (d.raiseIrq k).errCode = d.errCode := rfl
@[simp] theorem Dev.raiseIrq_errPos (k : Nat) : (d.raiseIrq k).errPos = d.errPos := rfl
@[simp] theorem Dev.raiseIrq_ctWerr (k : Nat) : (d.raiseIrq k).ctWerr = d.ctWerr := rfl
@[simp] theorem Dev.raiseIrq_cmdErr (k : Nat) : (d.raiseIrq k).cmdErr = d.cmdErr := rfl
@[simp] theorem Dev.raiseIrq_irqEn (k : Nat) : (d.raiseIrq k).irqEn = d.irqEn := rfl
@[simp] theorem Dev.raiseIrq_irqStat (k : Nat) : (d.raiseIrq k).irqStat = d.irqStat ||| BitVec.twoPow 2 k := rfl

/-! ### `Dev.takePayload` -/

@[simp] theorem Dev.takePayload_fstate (b : Byte) : (d.takePayload b).fstate = d.fstate := rfl
@[simp] theorem Dev.takePayload_ct (b : Byte) : (d.takePayload b).ct = d.ct := rfl
@[simp] theorem Dev.takePayload_ctIndex (b : Byte) : (d.takePayload b).ctIndex = d.ctIndex := rfl
@[simp] theorem Dev.takePayload_ctStage (b : Byte) : (d.takePayload b).ctStage = d.ctStage := rfl
@[simp] theorem Dev.takePayload_pad (b : Byte) : (d.takePayload b).pad = d.pad := rfl
@[simp] theorem Dev.takePayload_padValid (b : Byte) : (d.takePayload b).padValid = d.padValid := rfl
@[simp] theorem Dev.takePayload_bytesRx (b : Byte) : (d.takePayload b).bytesRx = d.bytesRx + 1 := rfl
@[simp] theorem Dev.takePayload_pos (b : Byte) : (d.takePayload b).pos = d.pos := rfl
@[simp] theorem Dev.takePayload_buf (b : Byte) : (d.takePayload b).buf = d.buf ++ bitsMSB8 b := rfl
@[simp] theorem Dev.takePayload_ended (b : Byte) : (d.takePayload b).ended = d.ended := rfl
@[simp] theorem Dev.takePayload_pend (b : Byte) : (d.takePayload b).pend = d.pend := rfl
@[simp] theorem Dev.takePayload_pendPos (b : Byte) : (d.takePayload b).pendPos = d.pendPos := rfl
@[simp] theorem Dev.takePayload_out (b : Byte) : (d.takePayload b).out = d.out := rfl
@[simp] theorem Dev.takePayload_symCount (b : Byte) : (d.takePayload b).symCount = d.symCount := rfl
@[simp] theorem Dev.takePayload_errCode (b : Byte) : (d.takePayload b).errCode = d.errCode := rfl
@[simp] theorem Dev.takePayload_errPos (b : Byte) : (d.takePayload b).errPos = d.errPos := rfl
@[simp] theorem Dev.takePayload_ctWerr (b : Byte) : (d.takePayload b).ctWerr = d.ctWerr := rfl
@[simp] theorem Dev.takePayload_cmdErr (b : Byte) : (d.takePayload b).cmdErr = d.cmdErr := rfl
@[simp] theorem Dev.takePayload_irqEn (b : Byte) : (d.takePayload b).irqEn = d.irqEn := rfl
@[simp] theorem Dev.takePayload_irqStat (b : Byte) : (d.takePayload b).irqStat = d.irqStat := rfl

/-! ### `Dev.decodeStep` -/

@[simp] theorem Dev.decodeStep_fstate (h : Hit) : (d.decodeStep h).fstate = d.fstate := rfl
@[simp] theorem Dev.decodeStep_ct (h : Hit) : (d.decodeStep h).ct = d.ct := rfl
@[simp] theorem Dev.decodeStep_ctIndex (h : Hit) : (d.decodeStep h).ctIndex = d.ctIndex := rfl
@[simp] theorem Dev.decodeStep_ctStage (h : Hit) : (d.decodeStep h).ctStage = d.ctStage := rfl
@[simp] theorem Dev.decodeStep_pad (h : Hit) : (d.decodeStep h).pad = d.pad := rfl
@[simp] theorem Dev.decodeStep_padValid (h : Hit) : (d.decodeStep h).padValid = d.padValid := rfl
@[simp] theorem Dev.decodeStep_bytesRx (h : Hit) : (d.decodeStep h).bytesRx = d.bytesRx := rfl
@[simp] theorem Dev.decodeStep_pos (h : Hit) : (d.decodeStep h).pos = d.pos + h.len := rfl
@[simp] theorem Dev.decodeStep_buf (h : Hit) : (d.decodeStep h).buf = d.buf.drop h.len := rfl
@[simp] theorem Dev.decodeStep_ended (h : Hit) : (d.decodeStep h).ended = d.ended := rfl
@[simp] theorem Dev.decodeStep_pend (h : Hit) : (d.decodeStep h).pend = d.pend := rfl
@[simp] theorem Dev.decodeStep_pendPos (h : Hit) : (d.decodeStep h).pendPos = d.pendPos := rfl
@[simp] theorem Dev.decodeStep_out (h : Hit) : (d.decodeStep h).out = d.out ++ [h.sym] := rfl
@[simp] theorem Dev.decodeStep_symCount (h : Hit) : (d.decodeStep h).symCount = d.symCount + 1 := rfl
@[simp] theorem Dev.decodeStep_errCode (h : Hit) : (d.decodeStep h).errCode = d.errCode := rfl
@[simp] theorem Dev.decodeStep_errPos (h : Hit) : (d.decodeStep h).errPos = d.errPos := rfl
@[simp] theorem Dev.decodeStep_ctWerr (h : Hit) : (d.decodeStep h).ctWerr = d.ctWerr := rfl
@[simp] theorem Dev.decodeStep_cmdErr (h : Hit) : (d.decodeStep h).cmdErr = d.cmdErr := rfl
@[simp] theorem Dev.decodeStep_irqEn (h : Hit) : (d.decodeStep h).irqEn = d.irqEn := rfl
@[simp] theorem Dev.decodeStep_irqStat (h : Hit) : (d.decodeStep h).irqStat = d.irqStat := rfl

/-! ### `Dev.unmatchStep` -/

@[simp] theorem Dev.unmatchStep_fstate : d.unmatchStep.fstate = .drain := rfl
@[simp] theorem Dev.unmatchStep_ct : d.unmatchStep.ct = d.ct := rfl
@[simp] theorem Dev.unmatchStep_ctIndex : d.unmatchStep.ctIndex = d.ctIndex := rfl
@[simp] theorem Dev.unmatchStep_ctStage : d.unmatchStep.ctStage = d.ctStage := rfl
@[simp] theorem Dev.unmatchStep_pad : d.unmatchStep.pad = d.pad := rfl
@[simp] theorem Dev.unmatchStep_padValid : d.unmatchStep.padValid = d.padValid := rfl
@[simp] theorem Dev.unmatchStep_bytesRx : d.unmatchStep.bytesRx = d.bytesRx := rfl
@[simp] theorem Dev.unmatchStep_pos : d.unmatchStep.pos = d.pos := rfl
@[simp] theorem Dev.unmatchStep_buf : d.unmatchStep.buf = [] := rfl
@[simp] theorem Dev.unmatchStep_ended : d.unmatchStep.ended = d.ended := rfl
@[simp] theorem Dev.unmatchStep_pend : d.unmatchStep.pend = .unknownCode := rfl
@[simp] theorem Dev.unmatchStep_pendPos : d.unmatchStep.pendPos = d.rawPos := rfl
@[simp] theorem Dev.unmatchStep_out : d.unmatchStep.out = [] := rfl
@[simp] theorem Dev.unmatchStep_symCount : d.unmatchStep.symCount = d.symCount := rfl
@[simp] theorem Dev.unmatchStep_errCode : d.unmatchStep.errCode = d.errCode := rfl
@[simp] theorem Dev.unmatchStep_errPos : d.unmatchStep.errPos = d.errPos := rfl
@[simp] theorem Dev.unmatchStep_ctWerr : d.unmatchStep.ctWerr = d.ctWerr := rfl
@[simp] theorem Dev.unmatchStep_cmdErr : d.unmatchStep.cmdErr = d.cmdErr := rfl
@[simp] theorem Dev.unmatchStep_irqEn : d.unmatchStep.irqEn = d.irqEn := rfl
@[simp] theorem Dev.unmatchStep_irqStat : d.unmatchStep.irqStat = d.irqStat := rfl

/-! ### `Dev.finishStep` -/

@[simp] theorem Dev.finishStep_fstate : d.finishStep.fstate = .done := rfl
@[simp] theorem Dev.finishStep_ct : d.finishStep.ct = d.ct := rfl
@[simp] theorem Dev.finishStep_ctIndex : d.finishStep.ctIndex = d.ctIndex := rfl
@[simp] theorem Dev.finishStep_ctStage : d.finishStep.ctStage = d.ctStage := rfl
@[simp] theorem Dev.finishStep_pad : d.finishStep.pad = d.pad := rfl
@[simp] theorem Dev.finishStep_padValid : d.finishStep.padValid = d.padValid := rfl
@[simp] theorem Dev.finishStep_bytesRx : d.finishStep.bytesRx = d.bytesRx := rfl
@[simp] theorem Dev.finishStep_pos : d.finishStep.pos = d.pos := rfl
@[simp] theorem Dev.finishStep_buf : d.finishStep.buf = [] := rfl
@[simp] theorem Dev.finishStep_ended : d.finishStep.ended = d.ended := rfl
@[simp] theorem Dev.finishStep_pend : d.finishStep.pend = d.pend := rfl
@[simp] theorem Dev.finishStep_pendPos : d.finishStep.pendPos = d.pendPos := rfl
@[simp] theorem Dev.finishStep_out : d.finishStep.out = d.out := rfl
@[simp] theorem Dev.finishStep_symCount : d.finishStep.symCount = d.symCount := rfl
@[simp] theorem Dev.finishStep_errCode : d.finishStep.errCode = d.errCode := rfl
@[simp] theorem Dev.finishStep_errPos : d.finishStep.errPos = d.errPos := rfl
@[simp] theorem Dev.finishStep_ctWerr : d.finishStep.ctWerr = d.ctWerr := rfl
@[simp] theorem Dev.finishStep_cmdErr : d.finishStep.cmdErr = d.cmdErr := rfl
@[simp] theorem Dev.finishStep_irqEn : d.finishStep.irqEn = d.irqEn := rfl
@[simp] theorem Dev.finishStep_irqStat : d.finishStep.irqStat = d.irqStat ||| BitVec.twoPow 2 0 := rfl

end Sys2Proof.Machine
end

