-- ==== Sys2Proof/Laws/Ops.lean ====
section
/-!
SUPPORT. One lemma per shared operation that says what it does: fields, bit sequences, the bus window, the error
entry, the commands, the engine's turn and a step.
-/

namespace Sys2Proof.Machine

/-! ## Operand fields -/

/-- A low field is the value modulo the field's range (R7). -/
@[simp] theorem lowBits_toNat {w : Nat} (n : Nat) (v : BitVec w) : (lowBits n v).toNat = v.toNat % 2 ^ n := by
  have h : v.toNat % 2 ^ n ≤ v.toNat := Nat.mod_le _ _
  simp only [lowBits, BitVec.toNat_ofNat]
  exact Nat.mod_eq_of_lt (by omega)

/-! ## Bit sequences -/

@[simp] theorem toBits_length (v n : Nat) : (toBits v n).length = n := by
  induction n with
  | zero => rfl
  | succ n ih => simp [toBits, ih]

@[simp] theorem bitsMSB8_length (b : Byte) : (bitsMSB8 b).length = 8 := toBits_length _ _

@[simp] theorem bitsOfBytes_nil : bitsOfBytes [] = [] := rfl

@[simp] theorem bitsOfBytes_cons (b : Byte) (bytes : List Byte) :
    bitsOfBytes (b :: bytes) = bitsMSB8 b ++ bitsOfBytes bytes := rfl

@[simp] theorem bitsOfBytes_append (xs ys : List Byte) : bitsOfBytes (xs ++ ys) = bitsOfBytes xs ++ bitsOfBytes ys := by
  simp [bitsOfBytes]

/-- A byte gives eight bits (R74). -/
@[simp] theorem bitsOfBytes_length (bytes : List Byte) : (bitsOfBytes bytes).length = 8 * bytes.length := by
  induction bytes with
  | nil => rfl
  | cons b bytes ih =>
    simp only [bitsOfBytes_cons, List.length_append, bitsMSB8_length, ih, List.length_cons]
    omega

@[simp] theorem codeBits_length (e : Entry) : e.codeBits.length = e.len.toNat := toBits_length _ _

/-! ## Match -/

/-- A hit lies inside the window and takes at least one bit (R123). -/
theorem matchTable_len {tbl : List Entry} {w : Bits} {h : Hit} (hm : matchTable tbl w = some h) :
    1 ≤ h.len ∧ h.len ≤ w.length := by
  obtain ⟨l, hl, hh⟩ := List.exists_of_findSome?_eq_some hm
  obtain ⟨i, -, rfl⟩ := Option.map_eq_some_iff.mp hh
  simp only [List.mem_range'_1] at hl
  exact ⟨hl.1, show l ≤ w.length by omega⟩

/-- Nothing matches an empty window. -/
@[simp] theorem matchTable_nil (tbl : List Entry) : matchTable tbl [] = none := rfl

/-! ## The bus window -/

/-- An address of the window gives its offset, whatever `BASE` is (R71). -/
@[simp] theorem windowOffset_base (p : Params) (off : Offset) :
    windowOffset p (p.base + off.toNat) = some off := by
  have h : off.toNat < 128 := off.isLt
  simp [windowOffset, h]

/-- The access made for a transaction word arrives as that word. -/
@[simp] theorem arrive_accessOf (p : Params) (t : TWord) : arrive p (accessOf p t) = .word t := by
  simp [arrive, accessOf, mkTWord_fields]

/-! ## Commands -/

@[simp] theorem Dev.command_true (d : Dev) (run : Dev → Dev) : d.command true run = run d := rfl

@[simp] theorem Dev.command_false (d : Dev) (run : Dev → Dev) : d.command false run = d := rfl

/-- What a frame state says of ACTIVE (R34). -/
theorem Dev.active_iff (d : Dev) :
    d.active = true ↔ d.fstate = .header ∨ d.fstate = .run ∨ d.fstate = .drain := by
  cases h : d.fstate <;> simp [Dev.active, h]

/-- START, once: ignored in a frame, and otherwise a cleared frame in HEADER (R181). -/
theorem Dev.start_cases (d : Dev) :
    (d.active = true ∧ d.start = { d with cmdErr := true }) ∨
    (d.active = false ∧ d.start = { d.frameClear with fstate := .header }) := by
  cases h : d.active <;> simp [Dev.start, h]

/-- CT_CLEAR, once: rejected in a frame, and otherwise an empty table (R184). -/
theorem Dev.clearTable_cases (d : Dev) :
    (d.active = true ∧ d.clearTable = { d with ctWerr := true }) ∨
    (d.active = false ∧
      d.clearTable = { d with ct := List.replicate d.ct.length Entry.invalid, ctIndex := 0#12 }) := by
  cases h : d.active <;> simp [Dev.clearTable, h, List.map_const']

/-- END, once: the four rows of R182. -/
theorem Dev.endStream_cases (d : Dev) :
    (d.fstate = .header ∧ d.endStream = d.frameError .truncatedStream 0#32) ∨
    (((d.fstate = .run ∧ d.ended = false) ∨ d.fstate = .drain) ∧ d.rBits < d.pad.toNat ∧
      d.endStream = d.frameError .truncatedStream d.rawBits) ∨
    (d.fstate = .run ∧ d.ended = false ∧ d.pad.toNat ≤ d.rBits ∧ d.endStream = { d with ended := true }) ∨
    (d.fstate = .drain ∧ d.pad.toNat ≤ d.rBits ∧ d.endStream = d.frameError d.pend d.pendPos) ∨
    ((d.fstate = .idle ∨ d.fstate = .done ∨ d.fstate = .error ∨ (d.fstate = .run ∧ d.ended = true)) ∧
      d.endStream = { d with cmdErr := true }) := by
  have ht : d.truncated = decide (d.rBits < d.pad.toNat) := rfl
  cases hs : d.fstate <;> simp only [Dev.endStream, hs, ht] <;>
    by_cases h : d.rBits < d.pad.toNat <;> cases he : d.ended <;> simp [h] <;> omega

/-- A byte, once: the five rules R200 to R204. -/
theorem Dev.pushByte_cases (p : Params) (d : Dev) (b : Byte) :
    (d.fstate = .header ∧ d.pushByte p b = d.takeHeader b) ∨
    (d.fstate = .run ∧ d.ended = false ∧ d.inReady p = true ∧ d.pushByte p b = d.takePayload b) ∨
    (d.fstate = .run ∧ d.ended = false ∧ d.inReady p = false ∧ d.pushByte p b = d.refusePayload p) ∨
    (d.fstate = .drain ∧ d.pushByte p b = d.dropByte p) ∨
    ((d.fstate = .idle ∨ d.fstate = .done ∨ d.fstate = .error ∨ (d.fstate = .run ∧ d.ended = true)) ∧
      d.pushByte p b = { d with cmdErr := true }) := by
  cases hs : d.fstate <;> simp only [Dev.pushByte, hs] <;> cases he : d.ended <;> cases hr : d.inReady p <;> simp

/-! ## The engine -/

/-- The engine's turn, once: nothing, or one of the four steps under its condition (R221). -/
theorem Dev.engineTurn_cases (p : Params) (d : Dev) :
    d.engineTurn p = d ∨
    (d.fstate = .run ∧
      ((∃ h, matchTable d.ct d.window = some h ∧ d.out.length ≠ p.outDepth ∧ d.engineTurn p = d.decodeStep h) ∨
      (matchTable d.ct d.window = none ∧ d.ended = false ∧ d.lMaxT ≤ d.decodable ∧
        d.engineTurn p = d.unmatchStep) ∨
      (matchTable d.ct d.window = none ∧ d.ended = true ∧ d.decodable = 0 ∧ d.engineTurn p = d.finishStep) ∨
      (matchTable d.ct d.window = none ∧ d.ended = true ∧ 1 ≤ d.decodable ∧ d.engineTurn p = d.failEndStep))) := by
  by_cases hs : d.fstate = .run
  case neg =>
    left
    cases h : d.fstate <;> simp_all [Dev.engineTurn, Dev.enabledStep]
  case pos =>
    have hf : d.outFull p = decide (d.out.length = p.outDepth) := rfl
    simp only [Dev.engineTurn, Dev.enabledStep, hs, hf]
    cases hm : matchTable d.ct d.window with
    | some h => by_cases hfull : d.out.length = p.outDepth <;> simp [hfull, Dev.takeStep]
    | none =>
      cases he : d.ended with
      | true =>
        by_cases hd : d.decodable = 0
        · simp [hd, Dev.takeStep]
        · simp [hd, Dev.takeStep, Nat.one_le_iff_ne_zero]
      | false => by_cases hd : d.lMaxT ≤ d.decodable <;> simp [hd, Dev.takeStep]

/-- No step is enabled outside RUN (R229). -/
theorem Dev.engineTurn_of_ne_run (p : Params) (d : Dev) (h : d.fstate ≠ .run) : d.engineTurn p = d := by
  rcases d.engineTurn_cases p with h' | ⟨h', -⟩
  · exact h'
  · exact absurd h' h

/-! ## Reset and power-down -/

/-- What an access that meets `rst` leaves of the state, in the window or outside it (R311, item I13). -/
theorem State.resetAccess_fields (s : State) (a : Access) :
    (s.resetAccess a).dev = Dev.reset s.cfg ∧ (s.resetAccess a).cfg = s.cfg ∧
    (s.resetAccess a).schedule = s.schedule ∧ (s.resetAccess a).lost = false := by
  unfold State.resetAccess
  cases windowOffset s.cfg a.addr <;> exact ⟨rfl, rfl, rfl, rfl⟩

/-- The pending error after a power-down is one of the three of R32. -/
theorem lostPend_cases (v : Nat) :
    lostPend v = .noError ∨ lostPend v = .unknownCode ∨ lostPend v = .emptyCodeTable := by
  have h : v % 3 = 0 ∨ v % 3 = 1 ∨ v % 3 = 2 := by omega
  rcases h with h | h | h <;> simp [lostPend, h]

/-- The error code after a power-down is none that the block never raises (R281). -/
theorem lostErrCode_raised (v : Nat) :
    lostErrCode v ≠ .emptyAlphabet ∧ lostErrCode v ≠ .degenerateTree ∧ lostErrCode v ≠ .malformedFrequencyLine := by
  unfold lostErrCode
  split <;> simp

/-- The variables after a power-down keep to the types and ranges of R32. -/
theorem Dev.lost_typed (p : Params) (free : Nat → Nat → Nat) : (Dev.lost p free).Typed p := by
  have low : ∀ {w : Nat} (k : Nat) (v : BitVec w), (lowBits k v).toNat < 2 ^ k := fun k v => by
    rw [lowBits_toNat]
    exact Nat.mod_lt _ (Nat.two_pow_pos k)
  have below : ∀ a b : Nat, a % (b + 1) ≤ b := fun a b => Nat.le_of_lt_succ (Nat.mod_lt a (Nat.succ_pos b))
  refine ⟨⟨by simp [Dev.lost], fun e he => ?_⟩, ⟨low _ _, low _ _⟩,
    ⟨below _ _, Nat.mod_lt _ (by decide), Nat.mod_lt _ (by decide)⟩, ?_, ⟨?_, fun x hx => ?_⟩,
    ⟨lostErrCode_raised _, lostPend_cases _⟩⟩
  · obtain ⟨i, -, rfl⟩ := List.mem_map.mp he
    exact ⟨low _ _, low _ _⟩
  · simpa [Dev.lost] using below _ _
  · simpa [Dev.lost] using below _ _
  · obtain ⟨i, -, rfl⟩ := List.mem_map.mp hx
    exact low _ _

/-! ## Instructions and steps -/

/-- Every instruction answers a next state, and no instruction touches the parameters, the schedule, the count of free
values or the record of a power-down. -/
theorem exec_next (i : Instr) (s : State) :
    ∃ t, exec i s = .next t ∧ t.cfg = s.cfg ∧ t.schedule = s.schedule ∧ t.freeUses = s.freeUses ∧
      t.lost = s.lost := by
  cases i
  case rdDataOut =>
    cases h : s.dev.out with
    | nil => exact ⟨s.okRead 0#32, by simp [exec, execRdDataOut, h, readValue], rfl, rfl, rfl, rfl⟩
    | cons sym rest =>
      exact ⟨{ s with dev := s.dev.popOut }.okRead (symbolWord sym),
        by simp [exec, execRdDataOut, h, readValue], rfl, rfl, rfl, rfl⟩
  all_goals exact ⟨_, rfl, rfl, rfl, rfl, rfl⟩

/-- A step, once: the engine's turn, an access by what arrives, a reset, or a power-down. -/
theorem step_cases (s : State) :
    ((s.schedule = [] ∨ ∃ rest, s.schedule = .engine :: rest) ∧
      step s = .next { s with dev := s.dev.engineTurn s.cfg, schedule := s.schedule.tail }) ∨
    (∃ a rest, s.schedule = .access a :: rest ∧
      ((arrive s.cfg a = .outside ∧ step s = .next { s with schedule := rest }) ∨
      (∃ dir, arrive s.cfg a = .narrow dir ∧ step s = .next ({ s with schedule := rest }.busError dir)) ∨
      (∃ t, arrive s.cfg a = .word t ∧ step s = exec (decode t) { s with schedule := rest }))) ∨
    (∃ rest, s.schedule = .reset :: rest ∧ step s = .next ({ s with schedule := rest }.platformReset)) ∨
    (∃ a rest, s.schedule = .accessInReset a :: rest ∧ step s = .next ({ s with schedule := rest }.resetAccess a)) ∨
    (∃ rest, s.schedule = .powerDown :: rest ∧ step s = .next ({ s with schedule := rest }.powerDown)) := by
  obtain ⟨cfg, dev, schedule, reply, freeUses, lost⟩ := s
  cases schedule with
  | nil => exact .inl ⟨.inl rfl, rfl⟩
  | cons e rest =>
    cases e with
    | engine => exact .inl ⟨.inr ⟨rest, rfl⟩, rfl⟩
    | reset => exact .inr (.inr (.inl ⟨rest, rfl, rfl⟩))
    | accessInReset a => exact .inr (.inr (.inr (.inl ⟨a, rest, rfl, rfl⟩)))
    | powerDown => exact .inr (.inr (.inr (.inr ⟨rest, rfl, rfl⟩)))
    | access a =>
      refine .inr (.inl ⟨a, rest, rfl, ?_⟩)
      cases h : arrive cfg a with
      | outside => exact .inl ⟨rfl, by simp [step, stepEvent, stepAccess, h]⟩
      | narrow dir => exact .inr (.inl ⟨dir, rfl, by simp [step, stepEvent, stepAccess, h]⟩)
      | word t => exact .inr (.inr ⟨t, rfl, by simp [step, stepEvent, stepAccess, h]⟩)

/-- Only a reset ends what a power-down began (item I9). -/
theorem step_ends_lost {s t : State} (h : step s = .next t) (hl : s.lost = true) (ht : t.lost = false) :
    ∃ rest, (s.schedule = .reset :: rest ∧ t = ({ s with schedule := rest } : State).platformReset) ∨
      ∃ a, s.schedule = .accessInReset a :: rest ∧ t = ({ s with schedule := rest } : State).resetAccess a := by
  rcases step_cases s with ⟨-, e⟩ | ⟨a, rest, -, ⟨-, e⟩ | ⟨_, -, e⟩ | ⟨w, -, e⟩⟩ | ⟨rest, hs, e⟩ |
    ⟨a, rest, hs, e⟩ | ⟨rest, -, e⟩ <;> rw [e] at h
  case inr.inl.inr.inr =>
    obtain ⟨u, hu, -, -, -, hk⟩ := exec_next (decode w) { s with schedule := rest }
    cases h.symm.trans hu
    exact absurd (hk.symm.trans ht) (by simp [hl])
  case inr.inr.inl => cases h; exact ⟨rest, .inl ⟨hs, rfl⟩⟩
  case inr.inr.inr.inl => cases h; exact ⟨rest, .inr ⟨a, hs, rfl⟩⟩
  all_goals (cases h; simp [hl] at ht)

end Sys2Proof.Machine
end

