-- ==== Sys2Proof/Laws/PerInstr.lean ====
section
/-!
SUPPORT. The per-instruction family `WordMatchesRow`: the word of a well-formed instruction matches the instruction's
row of spec/opcode_table.json (R93, R94).
-/

namespace Sys2Proof.Laws.WordMatchesRow

/-- A row of the table with the instruction's mnemonic applies to its word. -/
def Statement (i : Instr) : Prop :=
  i.wellFormed = true → ∃ r ∈ opcodeRows, r.mnemonic = i.mnemonic ∧ r.applies (encode i) = true

/-- A mask that leaves out bits 31:0 does not see the data (R94). -/
theorem and_mask_without_data (dir : Dir) (off : Offset) (data : Word) (mask : TWord)
    (h : mask.setWidth 32 = 0#32) : mkTWord dir off data &&& mask = mkTWord dir off 0#32 &&& mask := by
  apply BitVec.eq_of_getLsbD_eq
  intro i hi
  simp only [BitVec.getLsbD_and, mkTWord_getLsbD]
  by_cases h1 : i < 32
  · have h2 : mask.getLsbD i = false := by
      have := congrArg (fun v => v.getLsbD i) h
      simpa [BitVec.getLsbD_setWidth, h1] using this
    simp [h2]
  · simp [h1]

/-- The row at index `k` is the instruction's, if it is so for the word with data 0. -/
theorem of_row (i : Instr) (k : Nat) (hk : k < opcodeRows.length)
    (hm : opcodeRows[k].mnemonic = i.mnemonic) (hw : opcodeRows[k].mask.setWidth 32 = 0#32)
    (ha : i.wellFormed = true → opcodeRows[k].applies (mkTWord i.dir i.off 0#32) = true) : Statement i := by
  intro hwf
  refine ⟨opcodeRows[k], List.getElem_mem hk, hm, ?_⟩
  have h := ha hwf
  unfold OpcodeRow.applies at h ⊢
  rw [encode, and_mask_without_data _ _ _ _ hw]
  exact h

theorem rdId : Statement .rdId := of_row _ 0 (by decide) rfl (by decide) fun _ => rfl

theorem rdParam : Statement .rdParam := of_row _ 1 (by decide) rfl (by decide) fun _ => rfl

theorem rdCtrl : Statement .rdCtrl := of_row _ 2 (by decide) rfl (by decide) fun _ => rfl

theorem rdStatus : Statement .rdStatus := of_row _ 3 (by decide) rfl (by decide) fun _ => rfl

theorem rdFlags : Statement .rdFlags := of_row _ 4 (by decide) rfl (by decide) fun _ => rfl

theorem rdIrqEn : Statement .rdIrqEn := of_row _ 5 (by decide) rfl (by decide) fun _ => rfl

theorem rdIrqStat : Statement .rdIrqStat := of_row _ 6 (by decide) rfl (by decide) fun _ => rfl

theorem rdErrCode : Statement .rdErrCode := of_row _ 7 (by decide) rfl (by decide) fun _ => rfl

theorem rdErrPos : Statement .rdErrPos := of_row _ 8 (by decide) rfl (by decide) fun _ => rfl

theorem rdPad : Statement .rdPad := of_row _ 9 (by decide) rfl (by decide) fun _ => rfl

theorem rdByteCount : Statement .rdByteCount := of_row _ 10 (by decide) rfl (by decide) fun _ => rfl

theorem rdBitPos : Statement .rdBitPos := of_row _ 11 (by decide) rfl (by decide) fun _ => rfl

theorem rdSymCount : Statement .rdSymCount := of_row _ 12 (by decide) rfl (by decide) fun _ => rfl

theorem rdCtIndex : Statement .rdCtIndex := of_row _ 13 (by decide) rfl (by decide) fun _ => rfl

theorem rdCtCode : Statement .rdCtCode := of_row _ 14 (by decide) rfl (by decide) fun _ => rfl

theorem rdCtEntry : Statement .rdCtEntry := of_row _ 15 (by decide) rfl (by decide) fun _ => rfl

theorem rdCtRcode : Statement .rdCtRcode := of_row _ 16 (by decide) rfl (by decide) fun _ => rfl

theorem rdCtCount : Statement .rdCtCount := of_row _ 17 (by decide) rfl (by decide) fun _ => rfl

theorem rdDataIn : Statement .rdDataIn := of_row _ 18 (by decide) rfl (by decide) fun _ => rfl

theorem rdDataOut : Statement .rdDataOut := of_row _ 19 (by decide) rfl (by decide) fun _ => rfl

theorem wrRoId (data : Word) : Statement (.wrRoId data) :=
  of_row _ 20 (by decide) rfl (by decide) fun _ =>
    show opcodeRows[20].applies (mkTWord .write 0x00#7 0#32) = true by decide

theorem wrRoParam (data : Word) : Statement (.wrRoParam data) :=
  of_row _ 21 (by decide) rfl (by decide) fun _ =>
    show opcodeRows[21].applies (mkTWord .write 0x04#7 0#32) = true by decide

theorem wrCtrl (data : Word) : Statement (.wrCtrl data) :=
  of_row _ 22 (by decide) rfl (by decide) fun _ =>
    show opcodeRows[22].applies (mkTWord .write 0x08#7 0#32) = true by decide

theorem wrRoStatus (data : Word) : Statement (.wrRoStatus data) :=
  of_row _ 23 (by decide) rfl (by decide) fun _ =>
    show opcodeRows[23].applies (mkTWord .write 0x0C#7 0#32) = true by decide

theorem wrFlags (data : Word) : Statement (.wrFlags data) :=
  of_row _ 24 (by decide) rfl (by decide) fun _ =>
    show opcodeRows[24].applies (mkTWord .write 0x10#7 0#32) = true by decide

theorem wrIrqEn (data : Word) : Statement (.wrIrqEn data) :=
  of_row _ 25 (by decide) rfl (by decide) fun _ =>
    show opcodeRows[25].applies (mkTWord .write 0x14#7 0#32) = true by decide

theorem wrIrqStat (data : Word) : Statement (.wrIrqStat data) :=
  of_row _ 26 (by decide) rfl (by decide) fun _ =>
    show opcodeRows[26].applies (mkTWord .write 0x18#7 0#32) = true by decide

theorem wrRoErrCode (data : Word) : Statement (.wrRoErrCode data) :=
  of_row _ 27 (by decide) rfl (by decide) fun _ =>
    show opcodeRows[27].applies (mkTWord .write 0x1C#7 0#32) = true by decide

theorem wrRoErrPos (data : Word) : Statement (.wrRoErrPos data) :=
  of_row _ 28 (by decide) rfl (by decide) fun _ =>
    show opcodeRows[28].applies (mkTWord .write 0x20#7 0#32) = true by decide

theorem wrRoPad (data : Word) : Statement (.wrRoPad data) :=
  of_row _ 29 (by decide) rfl (by decide) fun _ =>
    show opcodeRows[29].applies (mkTWord .write 0x24#7 0#32) = true by decide

theorem wrRoByteCount (data : Word) : Statement (.wrRoByteCount data) :=
  of_row _ 30 (by decide) rfl (by decide) fun _ =>
    show opcodeRows[30].applies (mkTWord .write 0x28#7 0#32) = true by decide

theorem wrRoBitPos (data : Word) : Statement (.wrRoBitPos data) :=
  of_row _ 31 (by decide) rfl (by decide) fun _ =>
    show opcodeRows[31].applies (mkTWord .write 0x2C#7 0#32) = true by decide

theorem wrRoSymCount (data : Word) : Statement (.wrRoSymCount data) :=
  of_row _ 32 (by decide) rfl (by decide) fun _ =>
    show opcodeRows[32].applies (mkTWord .write 0x30#7 0#32) = true by decide

theorem wrCtIndex (data : Word) : Statement (.wrCtIndex data) :=
  of_row _ 33 (by decide) rfl (by decide) fun _ =>
    show opcodeRows[33].applies (mkTWord .write 0x34#7 0#32) = true by decide

theorem wrCtCode (data : Word) : Statement (.wrCtCode data) :=
  of_row _ 34 (by decide) rfl (by decide) fun _ =>
    show opcodeRows[34].applies (mkTWord .write 0x38#7 0#32) = true by decide

theorem wrCtEntry (data : Word) : Statement (.wrCtEntry data) :=
  of_row _ 35 (by decide) rfl (by decide) fun _ =>
    show opcodeRows[35].applies (mkTWord .write 0x3C#7 0#32) = true by decide

theorem wrRoCtRcode (data : Word) : Statement (.wrRoCtRcode data) :=
  of_row _ 36 (by decide) rfl (by decide) fun _ =>
    show opcodeRows[36].applies (mkTWord .write 0x40#7 0#32) = true by decide

theorem wrRoCtCount (data : Word) : Statement (.wrRoCtCount data) :=
  of_row _ 37 (by decide) rfl (by decide) fun _ =>
    show opcodeRows[37].applies (mkTWord .write 0x44#7 0#32) = true by decide

theorem wrDataIn (data : Word) : Statement (.wrDataIn data) :=
  of_row _ 38 (by decide) rfl (by decide) fun _ =>
    show opcodeRows[38].applies (mkTWord .write 0x48#7 0#32) = true by decide

theorem wrRoDataOut (data : Word) : Statement (.wrRoDataOut data) :=
  of_row _ 39 (by decide) rfl (by decide) fun _ =>
    show opcodeRows[39].applies (mkTWord .write 0x4C#7 0#32) = true by decide

theorem rdRsvd505c (off : Offset) : Statement (.rdRsvd505c off) := by
  have key : ∀ off : Offset, Offset.reserved5 off = true →
      opcodeRows[40].applies (mkTWord .read off 0#32) = true := by decide
  exact of_row _ 40 (by decide) rfl (by decide) fun h => key off h

theorem rdRsvd607c (off : Offset) : Statement (.rdRsvd607c off) := by
  have key : ∀ off : Offset, Offset.reserved6 off = true →
      opcodeRows[41].applies (mkTWord .read off 0#32) = true := by decide
  exact of_row _ 41 (by decide) rfl (by decide) fun h => key off h

theorem wrRsvd505c (off : Offset) (data : Word) : Statement (.wrRsvd505c off data) := by
  have key : ∀ off : Offset, Offset.reserved5 off = true →
      opcodeRows[42].applies (mkTWord .write off 0#32) = true := by decide
  exact of_row _ 42 (by decide) rfl (by decide) fun h => key off h

theorem wrRsvd607c (off : Offset) (data : Word) : Statement (.wrRsvd607c off data) := by
  have key : ∀ off : Offset, Offset.reserved6 off = true →
      opcodeRows[43].applies (mkTWord .write off 0#32) = true := by decide
  exact of_row _ 43 (by decide) rfl (by decide) fun h => key off h

theorem buserrMisaligned1 (dir : Dir) (off : Offset) (data : Word) : Statement (.buserrMisaligned1 dir off data) := by
  have key : ∀ (dir : Dir) (off : Offset), Offset.misaligned 1#7 off = true →
      opcodeRows[44].applies (mkTWord dir off 0#32) = true := by
    intro dir
    cases dir <;> decide
  refine of_row _ 44 (by decide) rfl (by decide) fun h => key dir off ?_
  simp only [Instr.wellFormed, Bool.and_eq_true] at h
  exact h.1

theorem buserrMisaligned2 (dir : Dir) (off : Offset) (data : Word) : Statement (.buserrMisaligned2 dir off data) := by
  have key : ∀ (dir : Dir) (off : Offset), Offset.misaligned 2#7 off = true →
      opcodeRows[45].applies (mkTWord dir off 0#32) = true := by
    intro dir
    cases dir <;> decide
  refine of_row _ 45 (by decide) rfl (by decide) fun h => key dir off ?_
  simp only [Instr.wellFormed, Bool.and_eq_true] at h
  exact h.1

theorem buserrMisaligned3 (dir : Dir) (off : Offset) (data : Word) : Statement (.buserrMisaligned3 dir off data) := by
  have key : ∀ (dir : Dir) (off : Offset), Offset.misaligned 3#7 off = true →
      opcodeRows[46].applies (mkTWord dir off 0#32) = true := by
    intro dir
    cases dir <;> decide
  refine of_row _ 46 (by decide) rfl (by decide) fun h => key dir off ?_
  simp only [Instr.wellFormed, Bool.and_eq_true] at h
  exact h.1

end Sys2Proof.Laws.WordMatchesRow
end

