-- ==== Sys2Proof/Tests/Slice0.lean ====
section
/-!
SUPPORT. The model's own tests, and for each statement with hypotheses a state that meets them. Expected values come
from 95_test_vectors.md (the vector's name is in the docstring) or from the encoding rules R90 to R94. `decide
+kernel` is Lean's kernel evaluating the same `Decidable` instance; it adds no axiom.
-/

namespace Sys2Proof.Tests

open Sys2Proof.Machine

-- One theorem after the other, so that kernel checks do not wait on each other in many threads.
set_option Elab.async false

/-! ## Small states -/

/-- The defaults of R5 with a table of four entries, for the vectors over T4. -/
def p4 : Params := { Params.defaults with ctIdxW := 2, base := 128 }

/-- A small instance: everything full after a few transactions. -/
def small : Params where
  symW := 8
  lMax := 3
  ctIdxW := 2
  outDepth := 1
  bufBits := 271
  maxFrameBytes := 3
  base := 128

/-- The least and the greatest instance of R5. -/
def least : Params where
  symW := 1
  lMax := 1
  ctIdxW := 0
  outDepth := 1
  bufBits := 264
  maxFrameBytes := 1
  base := 0

def greatest : Params where
  symW := 16
  lMax := 32
  ctIdxW := 12
  outDepth := 255
  bufBits := 1023
  maxFrameBytes := 2 ^ 29 - 1
  base := 2 ^ 32 - 128

/-- Table T4 of 95_test_vectors.md. -/
def t4 : List Entry :=
  [⟨true, 1#6, 0#32, 0x61#16⟩, ⟨true, 2#6, 2#32, 0x62#16⟩, ⟨true, 3#6, 6#32, 0x63#16⟩, ⟨true, 3#6, 7#32, 0x64#16⟩]

/-- Table T1, in a table of four entries. -/
def t1 : List Entry := [⟨true, 1#6, 0#32, 0x61#16⟩, Entry.invalid, Entry.invalid, Entry.invalid]

/-- The machine with parameters `p`, the block in state `d` and `events` to come. -/
def at' (p : Params) (d : Dev) (events : List Event := []) : State :=
  { State.resetWith p with dev := d, schedule := events }

/-- The answer of one instruction. -/
def answer (i : Instr) (s : State) : Option Reply :=
  match exec i s with
  | .next t => t.reply
  | .fault _ => none
  | .refused _ => none

/-- The value one read returns. -/
def value (i : Instr) (s : State) : Option Word := (answer i s).bind (·.rdata)

/-- The block after one instruction. -/
def after (i : Instr) (s : State) : Option Dev :=
  match exec i s with
  | .next t => some t.dev
  | .fault _ => none
  | .refused _ => none

/-- The block after one step. -/
def stepped (s : State) : Option Dev :=
  match step s with
  | .next t => some t.dev
  | .fault _ => none
  | .refused _ => none

/-- T4 loaded, IDLE. -/
def idle4 : Dev := { Dev.reset p4 with ct := t4, ctStage := 7#32 }
/-- T4, HEADER. -/
def header4 : Dev := { idle4 with fstate := .header }
/-- T4, RUN after `push 06`. -/
def run0 : Dev := { header4 with fstate := .run, pad := 6#8, padValid := true, bytesRx := 1 }
/-- T4, RUN after `push 06` and `push 4D`, no engine step yet (S3). -/
def run1 : Dev := { run0 with bytesRx := 2, buf := [false, true, false, false, true, true, false, true] }
/-- T4, RUN after the frame of E1 and END, all five symbols decoded. -/
def runEnd : Dev :=
  { run0 with
    bytesRx := 3, pos := 10, buf := [false, false, false, false, false, false], ended := true, symCount := 5
    out := [0x61#16, 0x62#16, 0x61#16, 0x63#16, 0x64#16] }
/-- E1's DONE. -/
def done4 : Dev := { runEnd with fstate := .done, buf := [], irqStat := 1#2 }
/-- The frame of E6 after `push C0` and END: one bit left, which matches nothing. -/
def runStuck : Dev :=
  { run0 with
    pad := 7#8, bytesRx := 2, ended := true, buf := [true, true, false, false, false, false, false, false] }
/-- E6's ERROR. -/
def error4 : Dev :=
  { runStuck with fstate := .error, errCode := .unknownCode, errPos := 8#32, buf := [], irqStat := 2#2 }
/-- An empty table, DRAIN after `push 00` (S2). -/
def drainEmpty : Dev :=
  { Dev.reset p4 with
    fstate := .drain, padValid := true, bytesRx := 1, pend := .emptyCodeTable }
/-- T1, RUN after `push 00` and `push 80`, no engine step yet (E10). -/
def runBad : Dev :=
  { run0 with
    ct := t1, pad := 0#8, bytesRx := 2, buf := [true, false, false, false, false, false, false, false] }
/-- E10's DRAIN. -/
def drain1 : Dev := { runBad with fstate := .drain, pend := .unknownCode, pendPos := 8#32, buf := [] }

/-! ## Well-formedness: an ill-formed term for each check -/

theorem test_wf_rdRsvd505c : (Instr.rdRsvd505c 0x60#7).wellFormed = false := by decide
theorem test_wf_rdRsvd607c : (Instr.rdRsvd607c 0x5C#7).wellFormed = false := by decide
theorem test_wf_wrRsvd505c : (Instr.wrRsvd505c 0x4C#7 0#32).wellFormed = false := by decide
theorem test_wf_wrRsvd607c : (Instr.wrRsvd607c 0x61#7 0#32).wellFormed = false := by decide
theorem test_wf_misaligned_1 : (Instr.buserrMisaligned1 .write 0x02#7 0#32).wellFormed = false := by decide
theorem test_wf_misaligned_2 : (Instr.buserrMisaligned2 .write 0x03#7 0#32).wellFormed = false := by decide
theorem test_wf_misaligned_3 : (Instr.buserrMisaligned3 .write 0x00#7 0#32).wellFormed = false := by decide
theorem test_wf_read_data_1 : (Instr.buserrMisaligned1 .read 0x01#7 1#32).wellFormed = false := by decide
theorem test_wf_read_data_2 : (Instr.buserrMisaligned2 .read 0x02#7 1#32).wellFormed = false := by decide
theorem test_wf_read_data_3 : (Instr.buserrMisaligned3 .read 0x03#7 1#32).wellFormed = false := by decide

/-- The last offset of each reserved block, and the last offset of the window, are accepted. -/
theorem test_wf_accepted :
    (Instr.rdRsvd505c 0x5C#7).wellFormed = true ∧ (Instr.rdRsvd607c 0x7C#7).wellFormed = true ∧
    (Instr.wrRsvd505c 0x50#7 1#32).wellFormed = true ∧ (Instr.wrRsvd607c 0x60#7 1#32).wellFormed = true ∧
    (Instr.buserrMisaligned3 .write 0x7F#7 1#32).wellFormed = true ∧
    (Instr.buserrMisaligned1 .read 0x01#7 0#32).wellFormed = true := by decide

/-! ## Decoding: one word per constructor, written bit by bit from R90 (`W`, `OFF[6:0]`, `DATA`) and R93 -/

/-- The bits of a word: `W` and `OFF` in binary, `DATA` in hexadecimal. -/
def word (w : BitVec 1) (off : BitVec 7) (data : BitVec 32) : TWord :=
  BitVec.ofNat 40 (w.toNat * 2 ^ 39 + off.toNat * 2 ^ 32 + data.toNat)

theorem test_decode_reads_00_to_24 :
    decode (word 0b0#1 0b0000000#7 0#32) = .rdId ∧ decode (word 0b0#1 0b0000100#7 0#32) = .rdParam ∧
    decode (word 0b0#1 0b0001000#7 0#32) = .rdCtrl ∧ decode (word 0b0#1 0b0001100#7 0#32) = .rdStatus ∧
    decode (word 0b0#1 0b0010000#7 0#32) = .rdFlags ∧ decode (word 0b0#1 0b0010100#7 0#32) = .rdIrqEn ∧
    decode (word 0b0#1 0b0011000#7 0#32) = .rdIrqStat ∧ decode (word 0b0#1 0b0011100#7 0#32) = .rdErrCode ∧
    decode (word 0b0#1 0b0100000#7 0#32) = .rdErrPos ∧ decode (word 0b0#1 0b0100100#7 0#32) = .rdPad := by decide

theorem test_decode_reads_28_to_4c :
    decode (word 0b0#1 0b0101000#7 0#32) = .rdByteCount ∧ decode (word 0b0#1 0b0101100#7 0#32) = .rdBitPos ∧
    decode (word 0b0#1 0b0110000#7 0#32) = .rdSymCount ∧ decode (word 0b0#1 0b0110100#7 0#32) = .rdCtIndex ∧
    decode (word 0b0#1 0b0111000#7 0#32) = .rdCtCode ∧ decode (word 0b0#1 0b0111100#7 0#32) = .rdCtEntry ∧
    decode (word 0b0#1 0b1000000#7 0#32) = .rdCtRcode ∧ decode (word 0b0#1 0b1000100#7 0#32) = .rdCtCount ∧
    decode (word 0b0#1 0b1001000#7 0#32) = .rdDataIn ∧ decode (word 0b0#1 0b1001100#7 0#32) = .rdDataOut := by decide

theorem test_decode_writes_00_to_24 :
    decode (word 0b1#1 0b0000000#7 1#32) = .wrRoId 1#32 ∧ decode (word 0b1#1 0b0000100#7 1#32) = .wrRoParam 1#32 ∧
    decode (word 0b1#1 0b0001000#7 1#32) = .wrCtrl 1#32 ∧ decode (word 0b1#1 0b0001100#7 1#32) = .wrRoStatus 1#32 ∧
    decode (word 0b1#1 0b0010000#7 1#32) = .wrFlags 1#32 ∧ decode (word 0b1#1 0b0010100#7 1#32) = .wrIrqEn 1#32 ∧
    decode (word 0b1#1 0b0011000#7 1#32) = .wrIrqStat 1#32 ∧
    decode (word 0b1#1 0b0011100#7 1#32) = .wrRoErrCode 1#32 ∧
    decode (word 0b1#1 0b0100000#7 1#32) = .wrRoErrPos 1#32 ∧
    decode (word 0b1#1 0b0100100#7 1#32) = .wrRoPad 1#32 := by decide

theorem test_decode_writes_28_to_4c :
    decode (word 0b1#1 0b0101000#7 0xFFFFFFFF#32) = .wrRoByteCount 0xFFFFFFFF#32 ∧
    decode (word 0b1#1 0b0101100#7 0x80000000#32) = .wrRoBitPos 0x80000000#32 ∧
    decode (word 0b1#1 0b0110000#7 5#32) = .wrRoSymCount 5#32 ∧
    decode (word 0b1#1 0b0110100#7 3#32) = .wrCtIndex 3#32 ∧
    decode (word 0b1#1 0b0111000#7 6#32) = .wrCtCode 6#32 ∧
    decode (word 0b1#1 0b0111100#7 0x80010061#32) = .wrCtEntry 0x80010061#32 ∧
    decode (word 0b1#1 0b1000000#7 1#32) = .wrRoCtRcode 1#32 ∧
    decode (word 0b1#1 0b1000100#7 1#32) = .wrRoCtCount 1#32 ∧
    decode (word 0b1#1 0b1001000#7 0x4D#32) = .wrDataIn 0x4D#32 ∧
    decode (word 0b1#1 0b1001100#7 1#32) = .wrRoDataOut 1#32 := by decide

theorem test_decode_reserved_and_misaligned :
    decode (word 0b0#1 0b1010100#7 0#32) = .rdRsvd505c 0x54#7 ∧
    decode (word 0b0#1 0b1111100#7 0#32) = .rdRsvd607c 0x7C#7 ∧
    decode (word 0b1#1 0b1011100#7 9#32) = .wrRsvd505c 0x5C#7 9#32 ∧
    decode (word 0b1#1 0b1100000#7 9#32) = .wrRsvd607c 0x60#7 9#32 ∧
    decode (word 0b0#1 0b0000001#7 0#32) = .buserrMisaligned1 .read 0x01#7 0#32 ∧
    decode (word 0b1#1 0b0001010#7 1#32) = .buserrMisaligned2 .write 0x0A#7 1#32 ∧
    decode (word 0b1#1 0b1111111#7 1#32) = .buserrMisaligned3 .write 0x7F#7 1#32 := by decide

/-- Log entry 6: the data bits of a read are ignored. -/
theorem test_decode_read_data_ignored : decode 0x0CFFFFFFFF#40 = .rdStatus := by decide

/-- The host's numbering, and the two ways to be no transaction word (log entry 9). -/
theorem test_decodeTableWord :
    decodeTableWord 40 0x8800000001 = some (.wrCtrl 1#32) ∧ decodeBits 41 0 = .error .tooWide ∧
    decodeBits 40 (2 ^ 40) = .error .strayBits ∧ decodeTableWord 40 (2 ^ 40) = none := by decide

theorem test_encode : encode (.wrCtEntry 0x80010061#32) = 0xBC80010061#40 ∧ encode .rdDataOut = 0x4C00000000#40 := by
  decide

/-! ## Reads -/

/-- Vectors R1 and R2, and B9. -/
theorem test_rdId : value .rdId (State.resetWith p4) = some 0x48444543#32 := by decide

theorem test_rdParam_default : value .rdParam State.reset = some 0x10100820#32 := by decide +kernel

theorem test_rdParam_r2 :
    value .rdParam (State.resetWith { p4 with symW := 8, lMax := 20, ctIdxW := 4, outDepth := 4 }) =
      some 0x08040414#32 := by decide +kernel

/-- B10. -/
theorem test_rdCtrl : value .rdCtrl (at' p4 runEnd) = some 0#32 := by decide

/-- S3 and E1. -/
theorem test_rdStatus_s3_e1 :
    value .rdStatus (at' p4 run1) = some 0x00080092#32 ∧ value .rdStatus (at' p4 done4) = some 0x000005AC#32 := by
  decide

/-- S9: BUF and OUT full. -/
theorem test_rdStatus_s9 :
    value .rdStatus (at' { p4 with outDepth := 1, bufBits := 295 }
      { run0 with pad := 0#8, bytesRx := 38, pos := 1, buf := List.replicate 295 false, out := [0x61#16] }) =
      some 0x012701E2#32 := by decide +kernel

/-- F5: both flags. -/
theorem test_rdFlags : value .rdFlags (at' p4 { header4 with ctWerr := true, cmdErr := true }) = some 3#32 := by decide

theorem test_rdIrqEn : value .rdIrqEn (at' p4 { idle4 with irqEn := 3#2 }) = some 3#32 := by decide

/-- E1's end; reading does not clear. -/
theorem test_rdIrqStat : value .rdIrqStat (at' p4 done4) = some 1#32 ∧ after .rdIrqStat (at' p4 done4) = some done4 := by
  decide

/-- E6's end. -/
theorem test_rdErrCode : value .rdErrCode (at' p4 error4) = some 4#32 := by decide
theorem test_rdErrPos : value .rdErrPos (at' p4 error4) = some 8#32 := by decide

/-- R7. -/
theorem test_rdPad : value .rdPad (at' p4 done4) = some 6#32 := by decide
theorem test_rdByteCount : value .rdByteCount (at' p4 done4) = some 3#32 := by decide
theorem test_rdBitPos : value .rdBitPos (at' p4 done4) = some 10#32 := by decide
theorem test_rdSymCount : value .rdSymCount (at' p4 done4) = some 5#32 := by decide

/-- T14. -/
theorem test_rdCtIndex : value .rdCtIndex (at' p4 { idle4 with ctIndex := 2#12 }) = some 2#32 := by decide
theorem test_rdCtEntry : value .rdCtEntry (at' p4 { idle4 with ctIndex := 2#12 }) = some 0x80030063#32 := by decide
theorem test_rdCtRcode : value .rdCtRcode (at' p4 { idle4 with ctIndex := 2#12 }) = some 6#32 := by decide

/-- P1's end state. -/
theorem test_rdCtCode : value .rdCtCode (at' p4 done4) = some 7#32 := by decide

/-- P1, line 10, and T8. -/
theorem test_rdCtCount : value .rdCtCount (at' p4 idle4) = some 0x00030004#32 := by decide

theorem test_rdCtCount_t8 :
    value .rdCtCount (at' p4 { idle4 with ct := t4.set 1 Entry.invalid }) = some 0x00030003#32 := by decide

/-- B10. -/
theorem test_rdDataIn : value .rdDataIn (at' p4 runEnd) = some 0#32 := by decide

/-- S7 and B11. -/
theorem test_rdDataOut_pops :
    value .rdDataOut (at' p4 { done4 with out := [0x61#16, 0x62#16] }) = some 0x80000061#32 ∧
    after .rdDataOut (at' p4 { done4 with out := [0x61#16, 0x62#16] }) = some { done4 with out := [0x62#16] } := by
  decide

theorem test_rdDataOut_empty :
    value .rdDataOut (at' p4 { done4 with out := [] }) = some 0#32 ∧
    after .rdDataOut (at' p4 { done4 with out := [] }) = some { done4 with out := [] } := by decide

/-! ## Writes to read-only registers (B8, B9) -/

theorem test_wrRo_00_to_24 : ∀ i ∈ [Instr.wrRoId 1#32, .wrRoParam 1#32, .wrRoStatus 7#32, .wrRoErrCode 1#32,
    .wrRoErrPos 1#32, .wrRoPad 1#32], after i (at' p4 run1) = some run1 := by decide

theorem test_wrRo_28_to_4c : ∀ i ∈ [Instr.wrRoByteCount 1#32, .wrRoBitPos 1#32, .wrRoSymCount 5#32,
    .wrRoCtRcode 1#32, .wrRoCtCount 1#32, .wrRoDataOut 1#32], after i (at' p4 run1) = some run1 := by decide

/-! ## CTRL -/

/-- F1: START and END in one write. -/
theorem test_wrCtrl_f1 :
    after (.wrCtrl 3#32) (State.resetWith p4) =
      some { Dev.reset p4 with fstate := .error, errCode := .truncatedStream, irqStat := 2#2 } := by decide

/-- F5 and F6: CT_CLEAR and START in HEADER, without and with ABORT. -/
theorem test_wrCtrl_f5_f6 :
    after (.wrCtrl 9#32) (at' p4 header4) = some { header4 with ctWerr := true, cmdErr := true } ∧
    after (.wrCtrl 13#32) (at' p4 header4) =
      some { header4 with ct := [Entry.invalid, Entry.invalid, Entry.invalid, Entry.invalid] } := by decide

/-! ## Flags and interrupt -/

/-- T12; and only the bit written is cleared. -/
theorem test_wrFlags :
    after (.wrFlags 1#32) (at' p4 { idle4 with ctWerr := true, cmdErr := true }) =
      some { idle4 with cmdErr := true } := by decide

/-- R6. -/
theorem test_wrIrqEn : after (.wrIrqEn 0xFF#32) (at' p4 idle4) = some { idle4 with irqEn := 3#2 } := by decide

/-- R3; and a 0 bit clears nothing. -/
theorem test_wrIrqStat :
    after (.wrIrqStat 1#32) (at' p4 { done4 with irqStat := 3#2 }) = some { done4 with irqStat := 2#2 } := by decide

/-- R3 and R5: the level `irq`. -/
theorem test_irq :
    ({ done4 with irqEn := 3#2 } : Dev).irq = true ∧ ({ done4 with irqEn := 3#2, irqStat := 0#2 } : Dev).irq = false ∧
    done4.irq = false ∧ ({ done4 with irqEn := 2#2 } : Dev).irq = false := by decide

/-! ## Code table -/

/-- T4: an index of `CT_IDX_W` bits. -/
theorem test_wrCtIndex :
    after (.wrCtIndex 259#32) (at' { p4 with ctIdxW := 8 } idle4) = some { idle4 with ctIndex := 3#12 } := by decide

/-- T3: a code of `L_MAX` bits. -/
theorem test_wrCtCode :
    after (.wrCtCode 0xFFFFFFFF#32) (at' { p4 with lMax := 20 } idle4) = some { idle4 with ctStage := 0xFFFFF#32 } := by
  decide

/-- T5 and T6 together: code bits at and above `len`, and symbol bits at and above `SYM_W`, are dropped. -/
theorem test_wrCtEntry_stores :
    after (.wrCtEntry 0x80031234#32) (at' { p4 with symW := 8 } { Dev.reset p4 with ctStage := 0xFF#32 }) =
      some { Dev.reset p4 with
        ct := [⟨true, 3#6, 7#32, 0x34#16⟩, Entry.invalid, Entry.invalid, Entry.invalid], ctIndex := 1#12
        ctStage := 0xFF#32 } := by decide

/-- T1 and T2: a length of 0, and one above `L_MAX`. -/
theorem test_wrCtEntry_refused :
    after (.wrCtEntry 0x80000061#32) (at' p4 idle4) = some { idle4 with ctWerr := true } ∧
    after (.wrCtEntry 0x80210061#32) (at' p4 idle4) = some { idle4 with ctWerr := true } := by decide

/-! ## Stream input -/

/-- S1 and S3. -/
theorem test_wrDataIn_s1 : after (.wrDataIn 0x06#32) (at' p4 header4) = some run0 := by decide

theorem test_wrDataIn_s3 : after (.wrDataIn 0xFFFFFF4D#32) (at' p4 run0) = some run1 := by decide

/-! ## Reserved offsets and bus errors -/

/-- B3 to B5. -/
theorem test_reserved :
    value (.rdRsvd505c 0x50#7) (at' p4 run1) = some 0#32 ∧ value (.rdRsvd607c 0x7C#7) (at' p4 run1) = some 0#32 ∧
    after (.wrRsvd505c 0x54#7 0x1234#32) (at' p4 run1) = some run1 ∧
    after (.wrRsvd607c 0x7C#7 0xFFFFFFFF#32) (at' p4 run1) = some run1 := by decide

/-- B6. -/
theorem test_misaligned :
    answer (.buserrMisaligned1 .read 0x01#7 0#32) (at' p4 run1) = some ⟨.busError, some 0#32⟩ ∧
    answer (.buserrMisaligned2 .write 0x0A#7 1#32) (at' p4 run1) = some ⟨.busError, none⟩ ∧
    after (.buserrMisaligned2 .write 0x0A#7 1#32) (at' p4 run1) = some run1 ∧
    after (.buserrMisaligned3 .read 0x4F#7 0#32) (at' p4 run1) = some run1 := by decide

/-- B7: a narrow write of DATA_IN pushes no byte. -/
theorem test_narrow : stepped (at' p4 run1 [.access ⟨128 + 0x48, .write, 0#32, false⟩]) = some run1 := by decide

/-! ## The engine (E2, E6, E10) -/

theorem test_engine_decode :
    stepped (at' p4 run1) =
      some { run1 with pos := 1, symCount := 1, out := [0x61#16], buf := run1.buf.tail } := by decide

theorem test_engine_waits :
    stepped (at' p4 { run1 with pos := 1, symCount := 1, out := [0x61#16], buf := run1.buf.tail }) =
      some { run1 with pos := 1, symCount := 1, out := [0x61#16], buf := run1.buf.tail } := by decide

theorem test_engine_finish : stepped (at' p4 runEnd) = some done4 := by decide

theorem test_engine_fail_end : stepped (at' p4 runStuck) = some error4 := by decide

theorem test_engine_unmatch : stepped (at' p4 runBad) = some drain1 := by decide

/-- A full FIFO stalls the engine (S9). -/
theorem test_engine_stalls :
    stepped (at' { p4 with outDepth := 1 } { run1 with out := [0x61#16] }) = some { run1 with out := [0x61#16] } := by
  decide

/-! ## Steps -/

/-- `withFetchWord` makes the next step run the word. -/
theorem test_withFetchWord :
    stepped ((State.resetWith p4).withFetchWord 40 0x8800000001) = after (.wrCtrl 1#32) (State.resetWith p4) ∧
    stepped ((State.resetWith p4).withFetchWord 40 0x8800000001) =
      some { Dev.reset p4 with fstate := .header } := by decide

theorem test_step_reset : stepped (at' p4 runEnd [.reset]) = some (Dev.reset p4) := by decide

/-- A power-down draws a free value and is remembered until a reset, which gives Z1's state (R295, item I9). -/
theorem test_powerDown :
    (at' p4 runEnd).powerDown.lost = true ∧ (at' p4 runEnd).powerDown.freeUses = 1 ∧
    (at' p4 runEnd).powerDown.platformReset.lost = false ∧
    (at' p4 runEnd).powerDown.platformReset.dev = Dev.reset p4 := ⟨rfl, rfl, rfl, rfl⟩

/-! ## Reference functions (RF1 to RF14, L1-1, L1-4, L1-5, E12, E13) -/

theorem test_removePadding :
    removePaddingBits [] = .err .truncatedStream 0 ∧ removePadding [0x00#8] = .ok [] ∧
    removePadding [0x01#8] = .err .truncatedStream 8 ∧ removePadding [0x08#8, 0xFF#8] = .ok [] ∧
    removePadding [0x09#8, 0xFF#8] = .err .truncatedStream 16 ∧
    removePaddingBits
      [false, false, false, false, false, false, true, true, true, false, true, false, false, false] =
      .ok [true, false, true] := by decide

theorem test_match :
    matchTable t4 [false, true, false] = some ⟨1, 0x61#16, 0⟩ ∧ matchTable t4 [true, true] = none ∧
    matchTable t4 [true, true, true, false] = some ⟨3, 0x64#16, 3⟩ ∧ matchTable t1 [true, false] = none := by decide

theorem test_decodeM :
    decodeM [true] t4 = .err .unknownCode 0 ∧ decodeM [false, true, false, true, true] t4 = .err .unknownCode 3 ∧
    decodeBitwise [false, true, false, true, true] t4 = .err .unknownCode 3 := by decide

theorem test_decompress :
    decompress [0x05#8] [Entry.invalid] = .err .truncatedStream 8 ∧
    decompress [0x00#8] [Entry.invalid] = .err .emptyCodeTable 0 ∧
    decompress [0x00#8, 0xFF#8] t4 = .err .unknownCode 14 ∧
    decompress [0x03#8, 0x4D#8, 0xC0#8] t4 =
      .ok [0x61#16, 0x62#16, 0x61#16, 0x63#16, 0x64#16, 0x61#16, 0x61#16, 0x61#16] := by decide

theorem test_encodeFrame :
    encodeFrame [0x61#16, 0x62#16, 0x61#16, 0x63#16, 0x64#16] t4 = some [0x06#8, 0x4D#8, 0xC0#8] := by decide

/-- E12: of two entries with one code the lower index wins. E13: the shorter match wins. -/
theorem test_match_order :
    matchTable [⟨true, 1#6, 0#32, 0x70#16⟩, ⟨true, 1#6, 0#32, 0x71#16⟩] [false] = some ⟨1, 0x70#16, 0⟩ ∧
    matchTable [⟨true, 2#6, 2#32, 0x71#16⟩, ⟨true, 1#6, 1#32, 0x70#16⟩] [true, false] = some ⟨1, 0x70#16, 1⟩ := by
  decide

/-! ## Witnesses: states that meet the hypotheses of the statements, at the boundary values of each clause -/

/-- A byte stands in HEADER of the small instance, whose `MAX_FRAME_BYTES` is 3. -/
def tiny (d : Dev) (events : List Event := []) : State := at' small d events

/-- T4's shape with symbols of eight bits. -/
def sHeader : Dev := { Dev.reset small with fstate := .header, ct := t4 }
def sRun : Dev := { sHeader with fstate := .run, padValid := true, bytesRx := 1 }
/-- RUN with as many bytes as a frame may carry. -/
def sRunMax : Dev := { sRun with bytesRx := 3, buf := List.replicate 16 false }
/-- DRAIN with as many bytes as a frame may carry. -/
def sDrainMax : Dev :=
  { sRun with ct := t1, fstate := .drain, bytesRx := 3, pend := .unknownCode, pendPos := 8#32 }
/-- RUN with one symbol decoded, OUT full and the buffer within a byte of its capacity, below the frame limit. -/
def fullParams : Params := { small with maxFrameBytes := 64 }
def sRunFull : Dev :=
  { sRun with bytesRx := 35, pos := 1, buf := List.replicate 271 false, out := [0x61#16], symCount := 1 }
/-- The same, with exactly a byte of room. -/
def sRunRoom : Dev := { sRunFull with bytesRx := 34, buf := List.replicate 263 false }

theorem legal_p4 : p4.Legal := by decide
theorem legal_small : small.Legal := by decide
theorem legal_least : least.Legal := by decide
theorem legal_greatest : greatest.Legal := by decide

/-- The symbols of `OUT`, checked by running over the list and not over all sixteen-bit words. -/
theorem symbols_of_all {p : Params} {out : List Symbol} (h : out.all (fun x => decide (x.toNat < 2 ^ p.symW)) = true) :
    ∀ x ∈ out, x.toNat < 2 ^ p.symW := by
  simpa [List.all_eq_true] using h

theorem inv_idle4 : (at' p4 idle4).Inv :=
  ⟨by decide, by constructor <;> decide +kernel,
    by constructor <;> first | exact symbols_of_all (by decide +kernel) | decide +kernel⟩
theorem inv_header4 : (at' p4 header4).Inv :=
  ⟨by decide, by constructor <;> decide +kernel,
    by constructor <;> first | exact symbols_of_all (by decide +kernel) | decide +kernel⟩
theorem inv_run0 : (at' p4 run0).Inv :=
  ⟨by decide, by constructor <;> decide +kernel,
    by constructor <;> first | exact symbols_of_all (by decide +kernel) | decide +kernel⟩
theorem inv_run1 : (at' p4 run1).Inv :=
  ⟨by decide, by constructor <;> decide +kernel,
    by constructor <;> first | exact symbols_of_all (by decide +kernel) | decide +kernel⟩
theorem inv_runEnd : (at' p4 runEnd).Inv :=
  ⟨by decide, by constructor <;> decide +kernel,
    by constructor <;> first | exact symbols_of_all (by decide +kernel) | decide +kernel⟩
theorem inv_runStuck : (at' p4 runStuck).Inv :=
  ⟨by decide, by constructor <;> decide +kernel,
    by constructor <;> first | exact symbols_of_all (by decide +kernel) | decide +kernel⟩
theorem inv_done4 : (at' p4 done4).Inv :=
  ⟨by decide, by constructor <;> decide +kernel,
    by constructor <;> first | exact symbols_of_all (by decide +kernel) | decide +kernel⟩
theorem inv_error4 : (at' p4 error4).Inv :=
  ⟨by decide, by constructor <;> decide +kernel,
    by constructor <;> first | exact symbols_of_all (by decide +kernel) | decide +kernel⟩
theorem inv_drainEmpty : (at' p4 drainEmpty).Inv :=
  ⟨by decide, by constructor <;> decide +kernel,
    by constructor <;> first | exact symbols_of_all (by decide +kernel) | decide +kernel⟩
theorem inv_runBad : (at' p4 runBad).Inv :=
  ⟨by decide, by constructor <;> decide +kernel,
    by constructor <;> first | exact symbols_of_all (by decide +kernel) | decide +kernel⟩
theorem inv_drain1 : (at' p4 drain1).Inv :=
  ⟨by decide, by constructor <;> decide +kernel,
    by constructor <;> first | exact symbols_of_all (by decide +kernel) | decide +kernel⟩
theorem inv_sHeader : (tiny sHeader).Inv :=
  ⟨by decide, by constructor <;> decide +kernel,
    by constructor <;> first | exact symbols_of_all (by decide +kernel) | decide +kernel⟩
theorem inv_sRunMax : (tiny sRunMax).Inv :=
  ⟨by decide, by constructor <;> decide +kernel,
    by constructor <;> first | exact symbols_of_all (by decide +kernel) | decide +kernel⟩
theorem inv_sDrainMax : (tiny sDrainMax).Inv :=
  ⟨by decide, by constructor <;> decide +kernel,
    by constructor <;> first | exact symbols_of_all (by decide +kernel) | decide +kernel⟩
theorem inv_sRunFull : (at' fullParams sRunFull).Inv :=
  ⟨by decide, by constructor <;> decide +kernel,
    by constructor <;> first | exact symbols_of_all (by decide +kernel) | decide +kernel⟩
theorem inv_sRunRoom : (at' fullParams sRunRoom).Inv :=
  ⟨by decide, by constructor <;> decide +kernel,
    by constructor <;> first | exact symbols_of_all (by decide +kernel) | decide +kernel⟩

/-- What is to come does not matter to the invariant. -/
theorem inv_events {p : Params} {d : Dev} (events : List Event) (h : (at' p d).Inv) : (at' p d events).Inv :=
  ⟨h.legal, h.frame, h.range⟩

/-! ### Encoding and steps -/

theorem witness_EncodeThenDecode :
    (Instr.wrCtrl 0xFFFFFFFF#32).wellFormed = true ∧ (Instr.rdRsvd505c 0x50#7).wellFormed = true ∧
    (Instr.rdRsvd607c 0x60#7).wellFormed = true ∧ (Instr.wrRsvd607c 0x7C#7 0#32).wellFormed = true ∧
    (Instr.buserrMisaligned1 .write 0x7D#7 0xFFFFFFFF#32).wellFormed = true ∧
    (Instr.buserrMisaligned2 .read 0x02#7 0#32).wellFormed = true := by decide

theorem witness_EachWordMatchesOneRow : (⟨"RD_ID", 0#40, 0xFF00000000#40⟩ : OpcodeRow) ∈ readRows ++ writeRows := by
  decide

theorem witness_StepRunsTheDecodedInstruction :
    (∃ (s : State) (rest : List Event) (dir : Dir) (off : Offset) (data : Word),
      s.schedule = .access { addr := s.cfg.base + off.toNat, dir := dir, data := data, whole := true } :: rest) ∧
    (∃ (s : State) (rest : List Event) (i : Instr),
      i.wellFormed = true ∧ s.schedule = .access (accessOf s.cfg (encode i)) :: rest) ∧
    (∃ (s : State) (rest : List Event) (a : Access), s.schedule = .access a :: rest ∧ a.addr < s.cfg.base) ∧
    (∃ (s : State) (rest : List Event) (a : Access), s.schedule = .access a :: rest ∧ s.cfg.base + 128 ≤ a.addr) ∧
    (∃ (s : State) (rest : List Event), s.schedule = .reset :: rest) ∧
    (∃ (s : State) (rest : List Event) (a : Access), s.schedule = .accessInReset a :: rest) ∧
    (∃ (s : State) (rest : List Event), s.schedule = .powerDown :: rest) ∧
    (∃ (s : State) (rest : List Event), s.schedule = .engine :: rest) ∧ ∃ s : State, s.schedule = [] :=
  ⟨⟨tiny sRun [.access ⟨255, .read, 0#32, true⟩], [], .read, 0x7F#7, 0#32, rfl⟩,
   ⟨tiny sRun [.access (accessOf small (encode (.wrDataIn 1#32)))], [], .wrDataIn 1#32, rfl, rfl⟩,
   ⟨tiny sRun [.access ⟨127, .read, 0#32, true⟩], [], ⟨127, .read, 0#32, true⟩, rfl, by decide⟩,
   ⟨tiny sRun [.access ⟨256, .read, 0#32, true⟩], [], ⟨256, .read, 0#32, true⟩, rfl, by decide⟩,
   ⟨tiny sRun [.reset], [], rfl⟩, ⟨tiny sRun [.accessInReset ⟨128, .read, 0#32, true⟩], [], _, rfl⟩,
   ⟨tiny sRun [.powerDown], [], rfl⟩, ⟨tiny sRun [.engine], [], rfl⟩, ⟨tiny sRun, rfl⟩⟩

/-- The first and the last address of the window, narrow and misaligned; the first and the last aligned one. -/
theorem witness_BusErrorChangesNothing :
    (∀ a ∈ [(⟨128, .write, 0#32, false⟩ : Access), ⟨255, .read, 0#32, true⟩, ⟨129, .write, 1#32, true⟩],
      small.base ≤ a.addr ∧ a.addr < small.base + 128 ∧
      (a.whole = false ∨ (a.addr - small.base) % 4 ≠ 0)) ∧
    ∀ a ∈ [(⟨128, .write, 0#32, true⟩ : Access), ⟨252, .read, 0#32, true⟩],
      small.base ≤ a.addr ∧ a.addr < small.base + 128 ∧
      a.whole = true ∧ (a.addr - small.base) % 4 = 0 := by decide

theorem witness_ResetStateOfEveryVariable : 1 ≤ (tiny sRunMax).cfg.outDepth := by decide

theorem witness_DerivedQuantitiesAreComputed :
    idle4.ctCount = 4 ∧ drainEmpty.ctCount = 0 ∧ (⟨true, 3#6, 7#32, 0x64#16⟩ : Entry) ∈ idle4.ct := by decide

/-! ### Reads -/

theorem witness_IdentificationReads :
    (State.resetWith least).cfg.Legal ∧ (State.resetWith greatest).cfg.Legal := by decide

theorem witness_StatusReadAssemblesItsFields : ∃ s : State, s.Inv ∧ s.dev.out ≠ [] := ⟨_, inv_sRunFull, by decide⟩

theorem witness_StatusRegisterReads :
    (∃ s : State, s.Inv ∧ s.dev.fstate ≠ .error) ∧ ∃ s : State, s.Inv ∧ s.dev.padValid = false :=
  ⟨⟨_, inv_done4, by decide⟩, ⟨_, inv_header4, by decide⟩⟩

theorem witness_TableReads :
    (∃ s : State, s.Inv ∧ 1 ≤ s.dev.ctCount) ∧ (∃ s : State, s.Inv ∧ s.dev.ctCount = 0) ∧
    ∃ s : State, s.Inv ∧ (entryAt s.dev.ct s.dev.ctIndex.toNat).valid = false :=
  ⟨⟨_, inv_idle4, by decide⟩, ⟨_, inv_drainEmpty, by decide⟩, ⟨_, inv_drainEmpty, by decide⟩⟩

theorem witness_DataOutPopsTheHead :
    (at' p4 done4).dev.out = 0x61#16 :: [0x62#16, 0x61#16, 0x63#16, 0x64#16] ∧ (at' p4 run1).dev.out = [] := by decide

theorem witness_OtherReadsHaveNoSideEffect :
    ∃ (i : Instr) (s t : State), i.dir = .read ∧ i ≠ .rdDataOut ∧ exec i s = .next t :=
  ⟨.rdStatus, at' p4 run1, _, rfl, by decide, rfl⟩

/-! ### Writes -/

theorem witness_ReadOnlyWritesAreIgnored :
    Instr.wrRoDataOut 1#32 ∈ [Instr.wrRoId 1#32, .wrRoParam 1#32, .wrRoStatus 1#32, .wrRoErrCode 1#32,
      .wrRoErrPos 1#32, .wrRoPad 1#32, .wrRoByteCount 1#32, .wrRoBitPos 1#32, .wrRoSymCount 1#32,
      .wrRoCtRcode 1#32, .wrRoCtCount 1#32, .wrRoDataOut 1#32] := by decide

theorem witness_IndexAndCodeWrites :
    (State.resetWith least).cfg.Legal ∧ least.ctIdxW = 0 ∧ (State.resetWith greatest).cfg.Legal := by decide

/-- `LEN = 1`, `LEN = L_MAX` and no VALID outside a frame; a frame; `LEN = 0` and `LEN = L_MAX + 1`. -/
theorem witness_CommitStoresOrIsRefused :
    (∀ d ∈ [idle4, done4, error4], d.fstate = .idle ∨ d.fstate = .done ∨ d.fstate = .error) ∧
    ((0x80010061#32).getLsbD 31 = true ∧ (0x80010061#32).toNat / 2 ^ 16 % 2 ^ 6 = 1 ∧ 1 ≤ p4.lMax) ∧
    ((0x80200061#32).getLsbD 31 = true ∧ (0x80200061#32).toNat / 2 ^ 16 % 2 ^ 6 = p4.lMax ∧ p4.lMax ≠ 0) ∧
    (0x003F0000#32).getLsbD 31 = false ∧
    (∀ d ∈ [header4, run1, drain1], d.fstate = .header ∨ d.fstate = .run ∨ d.fstate = .drain) ∧
    (0x80000061#32).getLsbD 31 = true ∧ (0x80000061#32).toNat / 2 ^ 16 % 2 ^ 6 = 0 ∧
    (0x80210061#32).getLsbD 31 = true ∧ p4.lMax < (0x80210061#32).toNat / 2 ^ 16 % 2 ^ 6 := by decide

theorem witness_InterruptRegisterWrites :
    ∃ (i : Instr) (s t : State), exec i s = .next t ∧ (∀ v, i ≠ .wrIrqStat v) ∧ s.dev.irqStat.getLsbD 0 = true :=
  ⟨.wrCtrl 5#32, at' p4 done4, _, rfl, by simp, by decide⟩

/-! ### CTRL -/

theorem witness_StartOpensAFrame :
    (∀ d ∈ [idle4, done4, error4], d.fstate = .idle ∨ d.fstate = .done ∨ d.fstate = .error) ∧
    ∀ d ∈ [header4, run1, drain1], d.fstate = .header ∨ d.fstate = .run ∨ d.fstate = .drain := by decide

/-- A payload one bit short of its padding, and one that is just its padding, in RUN and in DRAIN. -/
theorem witness_EndClosesTheStream :
    header4.fstate = .header ∧
    (({ run1 with pad := 9#8 } : Dev).fstate = .run ∧ run1.ended = false ∧
      8 * (run1.bytesRx - 1) < ({ run1 with pad := 9#8 } : Dev).pad.toNat) ∧
    (drain1.fstate = .drain ∧ 8 * (drain1.bytesRx - 1) < ({ drain1 with pad := 9#8 } : Dev).pad.toNat) ∧
    ({ run1 with pad := 8#8 } : Dev).pad.toNat ≤ 8 * (run1.bytesRx - 1) ∧
    ({ drain1 with pad := 8#8 } : Dev).pad.toNat ≤ 8 * (drain1.bytesRx - 1) ∧
    (∀ d ∈ [idle4, done4, error4, runEnd], d.fstate = .idle ∨ d.fstate = .done ∨ d.fstate = .error ∨
      (d.fstate = .run ∧ d.ended = true)) := by decide

/-- A frame of which no payload has come, with padding declared; and E10's DRAIN. -/
theorem witness_EndClosesTheStream_invariant :
    (∃ s : State, s.Inv ∧ s.dev.fstate = .run ∧ 8 * (s.dev.bytesRx - 1) < s.dev.pad.toNat) ∧
    ∃ s : State, s.Inv ∧ s.dev.fstate = .drain ∧ s.dev.pend = .unknownCode :=
  ⟨⟨at' p4 run0, inv_run0, by decide, by decide⟩, ⟨_, inv_drain1, by decide, by decide⟩⟩

theorem witness_ClearTableInvalidatesAll :
    (∀ d ∈ [idle4, done4, error4], d.fstate = .idle ∨ d.fstate = .done ∨ d.fstate = .error) ∧
    ∀ d ∈ [header4, run1, drain1], d.fstate = .header ∨ d.fstate = .run ∨ d.fstate = .drain := by decide

theorem witness_ControlFrame :
    ∃ (s t : State) (v : Word), exec (.wrCtrl v) s = .next t ∧ v.getLsbD 3 = false ∧
      s.dev.irqStat.getLsbD 1 = true ∧ s.dev.ctWerr = true ∧ s.dev.cmdErr = true :=
  ⟨at' p4 { error4 with ctWerr := true, cmdErr := true }, _, 7#32, rfl, by decide, by decide, by decide, by decide⟩

/-! ### DATA_IN -/

theorem witness_HeaderByteSetsPadding :
    (header4.fstate = .header ∧ 1 ≤ header4.ctCount) ∧
    ({ Dev.reset p4 with fstate := .header } : Dev).fstate = .header ∧
    ({ Dev.reset p4 with fstate := .header } : Dev).ctCount = 0 := by decide

/-- One byte below the frame limit, and exactly a byte of room. -/
theorem witness_PayloadByteAppendsItsBits :
    (sRun.fstate = .run ∧ sRun.ended = false ∧ ({ sRun with bytesRx := 2 } : Dev).bytesRx < small.maxFrameBytes ∧
      small.bufBits - sRun.buf.length ≥ 8) ∧
    sRunRoom.fstate = .run ∧ sRunRoom.ended = false ∧ sRunRoom.bytesRx < fullParams.maxFrameBytes ∧
    fullParams.bufBits - sRunRoom.buf.length = 8 := by decide +kernel

theorem witness_RefusedAndDroppedBytes :
    (sRunMax.fstate = .run ∧ sRunMax.ended = false ∧ sRunMax.bytesRx = small.maxFrameBytes) ∧
    (sDrainMax.fstate = .drain ∧ sDrainMax.bytesRx = small.maxFrameBytes) ∧
    (sRunFull.fstate = .run ∧ sRunFull.ended = false ∧ sRunFull.inReady fullParams = false ∧
      sRunFull.bytesRx < fullParams.maxFrameBytes) ∧
    ({ sDrainMax with bytesRx := 2 } : Dev).bytesRx ≠ small.maxFrameBytes := by decide +kernel

theorem witness_ByteOutsideAFrameIsIgnored :
    ∀ d ∈ [idle4, done4, error4, runEnd], d.fstate = .idle ∨ d.fstate = .done ∨ d.fstate = .error ∨
      (d.fstate = .run ∧ d.ended = true) := by decide

/-! ### The engine -/

theorem witness_EngineTurnsOnlyInRun : ∀ d ∈ [idle4, header4, drain1, done4, error4], d.fstate ≠ .run := by decide

/-- A match with room and without; no match before END with `D = LMAX_T` and with `D = LMAX_T - 1`; after END with
`D = 0` and with `D = 1`; and the invariants. -/
theorem witness_StepSelection :
    (run1.fstate = .run ∧ matchTable run1.ct run1.window = some ⟨1, 0x61#16, 0⟩ ∧ run1.out.length ≠ 1 ∧
      ({ run1 with out := [0x61#16] } : Dev).out.length = 1) ∧
    (({ runBad with pad := 7#8 } : Dev).fstate = .run ∧ runBad.ended = false ∧
      matchTable runBad.ct ({ runBad with pad := 7#8 } : Dev).window = none ∧
      runBad.lMaxT = ({ runBad with pad := 7#8 } : Dev).decodable) ∧
    (run0.fstate = .run ∧ run0.ended = false ∧ matchTable run0.ct run0.window = none ∧ run0.decodable < run0.lMaxT) ∧
    (runEnd.fstate = .run ∧ runEnd.ended = true ∧ matchTable runEnd.ct runEnd.window = none ∧
      runEnd.decodable = 0) ∧
    (runStuck.fstate = .run ∧ runStuck.ended = true ∧ matchTable runStuck.ct runStuck.window = none ∧
      1 ≤ runStuck.decodable) := by decide

theorem witness_StepSelection_invariants : ∃ (p : Params) (d : Dev), d.fstate = .run ∧ d.FrameInv p ∧ d.RangeInv p :=
  ⟨p4, run1, by decide, inv_run1.frame, inv_run1.range⟩

/-- One place is left in OUT. -/
theorem witness_DecodeEmitsOneSymbol :
    run1.fstate = .run ∧
    matchTable run1.ct run1.window = some ⟨1, 0x61#16, 0⟩ ∧ run1.out.length + 1 = 1 := by decide

theorem witness_UnmatchEntersDrain :
    runBad.fstate = .run ∧ runBad.ended = false ∧ matchTable runBad.ct ({ runBad with pad := 7#8 } : Dev).window = none ∧
    runBad.lMaxT = ({ runBad with pad := 7#8 } : Dev).decodable := by decide

theorem witness_StallAndWaitChangeNothing :
    (sRunFull.fstate = .run ∧
      matchTable sRunFull.ct sRunFull.window = some ⟨1, 0x61#16, 0⟩ ∧
      sRunFull.out.length = fullParams.outDepth) ∧
    (run0.fstate = .run ∧ run0.ended = false ∧
      matchTable run0.ct run0.window = none ∧ run0.decodable < run0.lMaxT) := by decide +kernel

theorem witness_TheEngineEndsTheFrame :
    (runEnd.fstate = .run ∧ runEnd.ended = true ∧
      runEnd.decodable = 0) ∧
    (runStuck.fstate = .run ∧ runStuck.ended = true ∧ 1 ≤ runStuck.decodable ∧
      matchTable runStuck.ct runStuck.window = none) := by decide

theorem witness_TheEngineEndsTheFrame_invariant : ∃ s : State, s.Inv ∧ s.dev.fstate = .run ∧
    s.dev.ended = true ∧ s.dev.decodable = 0 :=
  ⟨at' p4 runEnd, inv_runEnd, by decide, by decide, by decide⟩

/-! ### Reference functions -/

theorem witness_MatchIsShortestThenLowest :
    matchTable t4 [true, true, true] = some ⟨3, 0x64#16, 3⟩ ∧ matchTable t4 [true, true] = none := by decide

theorem witness_MatchIsMonotone :
    matchTable t4 [true, false] = some ⟨2, 0x62#16, 1⟩ ∧ matchTable t1 [true] = none ∧
    tableLMax t1 ≤ [true].length := by decide

/-- The valid entries of a table of four stand at its four indices. -/
theorem entryAt_four {tbl : List Entry} (hl : tbl.length = 4) {i : Nat} (h : (entryAt tbl i).valid = true) : i < 4 := by
  by_contra hi
  rw [entryAt, List.getD_eq_default _ _ (by omega)] at h
  exact absurd h (by decide)

theorem prefixCode_t4 : PrefixCode t4 := by
  have h : ∀ i < 4, ∀ j < 4, (entryAt t4 i).codeBits ≠ [] ∧
      ((entryAt t4 i).codeBits <+: (entryAt t4 j).codeBits → i = j) := by decide
  exact fun i j hi hj => h i (entryAt_four rfl hi) j (entryAt_four rfl hj)

theorem witness_PrefixCodeMatchesAreUnique :
    PrefixCode t4 ∧ (entryAt t4 3).valid = true ∧ (entryAt t4 3).codeBits <+: [true, true, true, false] :=
  ⟨prefixCode_t4, by decide⟩

theorem witness_SingleSymbolTableDecodes :
    entryAt t1 0 = ⟨true, 1#6, 0#32, 0x61#16⟩ ∧ ∀ j, (entryAt t1 j).valid = true → j = 0 := by
  have h : ∀ j < 4, (entryAt t1 j).valid = true → j = 0 := by decide
  exact ⟨by decide, fun j hj => h j (entryAt_four rfl hj) hj⟩

theorem witness_EncodedFramesDecompress :
    PrefixCode t4 ∧ 1 ≤ tableCount t4 ∧
    encodeFrame [0x61#16, 0x62#16, 0x61#16, 0x63#16, 0x64#16] t4 = some [0x06#8, 0x4D#8, 0xC0#8] :=
  ⟨prefixCode_t4, by decide⟩

/-- One bit of padding too many, and exactly as much as there is payload; an empty table and a table of one. -/
theorem witness_DecompressPrecedence :
    8 * [0xFF#8].length < (0x09#8).toNat ∧ (0x08#8).toNat ≤ 8 * [0xFF#8].length ∧
    tableCount [Entry.invalid] = 0 ∧ 1 ≤ tableCount t1 := by decide

/-! ### Invariants -/

theorem witness_ResetMeetsTheInvariant : least.Legal ∧ greatest.Legal ∧ ∃ s : State, s.Inv :=
  ⟨by decide, by decide, _, inv_run1⟩

theorem witness_StepKeepsTheInvariant :
    ∃ s t : State, s.Inv ∧ step s = .next t ∧ ∀ rest, s.schedule ≠ .powerDown :: rest :=
  ⟨_, _, inv_run1, rfl, by simp [at']⟩

/-- Before a power-down, and in what it leaves. -/
theorem witness_StepKeepsTheInvariant_sound :
    (∃ s t : State, s.Sound ∧ s.lost = false ∧ step s = .next t) ∧ ∃ s t : State, s.Sound ∧ s.lost = true ∧
      step s = .next t ∧ t.lost = false :=
  ⟨⟨at' p4 run1, _, ⟨by decide, fun _ => inv_run1⟩, rfl, rfl⟩,
   ⟨(at' p4 run1 [.reset]).powerDown, _, ⟨legal_p4, fun h => absurd h (by simp [State.powerDown])⟩, rfl, rfl, rfl⟩⟩

/-- An END that reports a pending error, and a power-down. -/
theorem witness_StepKeepsTheInvariant_codes :
    (∃ s t : State, s.dev.HardwareCodes ∧ step s = .next t ∧ t.dev.errCode = .emptyCodeTable) ∧
    ∃ s t : State, s.dev.HardwareCodes ∧ step s = .next t ∧ t.lost = true :=
  ⟨⟨at' p4 { Dev.reset p4 with fstate := .drain, pend := .emptyCodeTable } [opEnd p4], _,
      ⟨by decide, by decide⟩, rfl, by decide⟩,
   ⟨at' p4 run1 [.powerDown], _, ⟨by decide, by decide⟩, rfl, rfl⟩⟩

/-- A frame of E2 after its second byte. -/
theorem witness_StepKeepsTheMeaningOfTheFrame :
    ∃ (o : Observer) (s t : State), s.Inv ∧ o.Meaning s.dev ∧ step s = .next t ∧
      (∀ rest, s.schedule ≠ .powerDown :: rest) ∧ t.dev.out = [0x61#16] :=
  ⟨⟨t4, [0x06#8, 0x4D#8], []⟩, at' p4 run1, _, inv_run1,
    ⟨by decide, by decide, by decide, [0x4D#8], by decide, by decide, by decide⟩, rfl, by simp [at'], by decide⟩

/-- A reset after a power-down puts the meaning of a frame in force again. -/
theorem witness_StepKeepsTheMeaningOfTheFrame_sound :
    ∃ (o : Observer) (s t : State), s.Sound ∧ (s.lost = false → o.Meaning s.dev) ∧ step s = .next t ∧ t.lost = false :=
  ⟨Observer.fresh, (at' p4 run1 [.reset]).powerDown, _,
    ⟨legal_p4, fun h => absurd h (by simp [State.powerDown])⟩, fun h => absurd h (by simp [State.powerDown]), rfl, rfl⟩

/-- E1's end meets what DONE says of the frame, and E6's what ERROR says. -/
theorem witness_meaning_done_error :
    (⟨t4, [0x06#8, 0x4D#8, 0xC0#8], []⟩ : Observer).Meaning done4 ∧
    (⟨t4, [0x07#8, 0xC0#8], []⟩ : Observer).Meaning error4 :=
  ⟨⟨by decide, by decide, by decide, by decide, by decide⟩, ⟨by decide, by decide, by decide⟩⟩

/-- The shortest frame that ends in DONE (E4) and the shortest that ends in ERROR (F1), from reset. -/
theorem witness_EveryRunDecompressesItsFrames :
    least.Legal ∧
    (observedRun 5 Observer.fresh { State.resetWith least with
      schedule := [wrOp least 0x3C#7 0x80010001#32, opStart least, opPush least 0x00#8, opEnd least] }).2.dev.fstate =
      .done ∧
    (observedRun 5 Observer.fresh { State.resetWith least with
      schedule := [wrOp least 0x3C#7 0x80010001#32, opStart least, opPush least 0x00#8, opEnd least] }).2.lost = false ∧
    (observedRun 1 Observer.fresh { State.resetWith least with
      schedule := [wrOp least 0x08#7 3#32] }).2.dev.fstate = .error ∧
    (observedRun 1 Observer.fresh { State.resetWith least with
      schedule := [wrOp least 0x08#7 3#32] }).2.lost = false ∧
    (observedRun 1 Observer.fresh { State.resetWith least with
      schedule := [wrOp least 0x08#7 3#32] }).2.dev.errCode = .truncatedStream := by decide

/-! ### Whole-machine rules -/

/-- Each edge is taken in some state of the invariant; and other instructions run. -/
theorem witness_FrameStateEdges :
    (∃ (i : Instr) (s t : State), exec i s = .next t ∧ (∀ v, i ≠ .wrCtrl v) ∧ ∀ v, i ≠ .wrDataIn v) ∧
    (after (.wrDataIn 0#32) (at' p4 header4)).map (·.fstate) = some .run ∧
    (after (.wrDataIn 0#32) (at' p4 { Dev.reset p4 with fstate := .header })).map (·.fstate) = some .drain ∧
    (after (.wrDataIn 0#32) (at' fullParams sRunFull)).map (·.errCode) = some .inputOverrun ∧
    (after (.wrDataIn 0#32) (tiny sRunMax)).map (·.errCode) = some .frameTooLong ∧
    (after (.wrDataIn 0#32) (tiny sDrainMax)).map (·.errCode) = some .frameTooLong ∧
    (stepped (at' p4 runBad)).map (·.fstate) = some .drain ∧ (stepped (at' p4 runEnd)).map (·.fstate) = some .done ∧
    (stepped (at' p4 runStuck)).map (·.fstate) = some .error ∧
    (after (.wrCtrl 1#32) (at' p4 done4)).map (·.fstate) = some .header ∧
    (after (.wrCtrl 2#32) (at' p4 header4)).map (·.fstate) = some .error ∧
    (after (.wrCtrl 2#32) (at' p4 drain1)).map (·.fstate) = some .error ∧
    (after (.wrCtrl 2#32) (at' p4 { run1 with pad := 9#8 })).map (·.fstate) = some .error :=
  ⟨⟨.rdStatus, at' p4 run1, _, rfl, by simp, by simp⟩, by decide +kernel⟩

theorem witness_FrameStateEdges_invariants :
    (at' p4 header4).Inv ∧ (tiny sRunMax).Inv ∧ (tiny sDrainMax).Inv ∧ (at' fullParams sRunFull).Inv ∧
    (at' p4 runBad).Inv ∧ (at' p4 runEnd).Inv ∧ (at' p4 runStuck).Inv :=
  ⟨inv_header4, inv_sRunMax, inv_sDrainMax, inv_sRunFull, inv_runBad, inv_runEnd, inv_runStuck⟩

theorem witness_EnteringErrorIsTheErrorEntry :
    ∃ s t : State, s.Inv ∧ step s = .next t ∧ s.dev.fstate ≠ .error ∧ t.dev.fstate = .error ∧ s.schedule = [] ∧
      ∀ rest, s.schedule ≠ .powerDown :: rest :=
  ⟨at' p4 runStuck, _, inv_runStuck, rfl, by decide, by decide, rfl, by simp [at']⟩

theorem witness_ErrorsAreFinal :
    ∃ (s : State) (t : State) (v : Word), s.dev.fstate = .error ∧ exec (.wrCtrl v) s = .next t ∧
      v.getLsbD 0 = false ∧ v.getLsbD 2 = false :=
  ⟨at' p4 error4, _, 10#32, by decide, rfl, by decide, by decide⟩

/-- A commit in a frame, which is refused, and a CTRL write without ABORT. -/
theorem witness_TableIsLockedDuringAFrame :
    ∃ (s t : State) (a : Access) (c : Word), (s.dev.fstate = .header ∨ s.dev.fstate = .run ∨ s.dev.fstate = .drain) ∧
      step s = .next t ∧ s.schedule = [.access a] ∧ arrive s.cfg a = .word (encode (.wrCtrl c)) ∧
      decode (encode (.wrCtrl c)) = .wrCtrl c ∧ c.getLsbD 2 = false ∧ c.getLsbD 3 = true ∧ s.platformTurn = false :=
  ⟨at' p4 run1 [opCtClear p4], _, accessOf p4 (encode (.wrCtrl 8#32)), 8#32, by decide, rfl, by decide, by decide,
    by decide, by decide, by decide, rfl⟩

theorem witness_InterruptStatusIsSticky :
    ∃ (s t : State) (a : Access) (c : Word), step s = .next t ∧ s.dev.irqStat.getLsbD 0 = true ∧
      s.schedule = [.access a] ∧ arrive s.cfg a = .word (encode (.wrIrqStat c)) ∧
      decode (encode (.wrIrqStat c)) = .wrIrqStat c ∧ c.getLsbD 0 = false ∧ s.platformTurn = false :=
  ⟨at' p4 done4 [wrOp p4 0x18#7 2#32], _, accessOf p4 (encode (.wrIrqStat 2#32)), 2#32, rfl, by decide, by decide,
    by decide, by decide, by decide, rfl⟩

theorem witness_CountersOnlyGrowInAFrame :
    ∃ s t : State, s.Inv ∧ step s = .next t ∧ s.platformTurn = false ∧ s.schedule = [] ∧ s.dev.pos < t.dev.pos :=
  ⟨at' p4 run1, _, inv_run1, rfl, rfl, rfl, by decide⟩

/-! ### Progress -/

/-- The buffer is within a byte of its capacity, and OUT, of depth two, is not full. -/
def roomParams : Params := { fullParams with outDepth := 2 }

theorem inv_sRunFull_room : (at' roomParams sRunFull).Inv :=
  ⟨by decide, by constructor <;> decide +kernel,
    by constructor <;> first | exact symbols_of_all (by decide +kernel) | decide +kernel⟩

theorem witness_ClosedInputMeansTheEngineCanStep :
    ∃ s : State, s.Inv ∧ s.dev.fstate = .run ∧ s.dev.ended = false ∧ s.dev.bytesRx < s.cfg.maxFrameBytes ∧
      s.dev.inReady s.cfg = false ∧ s.dev.out.length ≠ s.cfg.outDepth :=
  ⟨at' roomParams sRunFull, inv_sRunFull_room, by decide +kernel⟩

theorem witness_AFrameEndsOnceItsStreamEnds :
    ∃ s : State, s.Inv ∧ s.dev.fstate = .run ∧ s.dev.ended = true ∧
      s.schedule = poppingHost s.cfg (s.dev.decodable + 1) :=
  ⟨at' p4 runStuck (poppingHost p4 2), inv_events _ inv_runStuck, by decide, by decide, by decide⟩

/-- The input is closed, so that the engine has to take a step before it opens. -/
theorem witness_TheInputOpensAgain :
    ∃ s : State, s.Inv ∧ s.dev.fstate = .run ∧ s.dev.ended = false ∧ s.dev.bytesRx < s.cfg.maxFrameBytes ∧
      s.schedule = poppingHost s.cfg s.dev.decodable ∧ s.dev.inReady s.cfg = false :=
  ⟨at' fullParams sRunFull (poppingHost fullParams sRunFull.decodable), inv_events _ inv_sRunFull, by decide +kernel,
    by decide +kernel, by decide +kernel, rfl, by decide +kernel⟩

/-- One byte fits, with a turn of the engine and a pop before it. -/
theorem witness_TheInputBudgetIsSafe :
    ∃ s : State, s.Inv ∧ s.dev.fstate = .run ∧ s.dev.ended = false ∧
      (∀ e ∈ s.schedule, e = .engine ∨ e = opPop s.cfg ∨ ∃ b, e = opPush s.cfg b) ∧
      (s.schedule.filter (fun e => decide (e ≠ .engine ∧ e ≠ opPop s.cfg))).length =
        (s.cfg.bufBits - s.dev.buf.length) / 8 ∧
      s.dev.bytesRx + (s.schedule.filter (fun e => decide (e ≠ .engine ∧ e ≠ opPop s.cfg))).length ≤
        s.cfg.maxFrameBytes := by
  refine ⟨at' fullParams sRunRoom [.engine, opPop fullParams, opPush fullParams 0#8], inv_events _ inv_sRunRoom,
    by decide +kernel, by decide +kernel, ?_, by decide +kernel, by decide +kernel⟩
  intro e he
  simp only [at', List.mem_cons, List.not_mem_nil, or_false] at he
  rcases he with rfl | rfl | rfl
  · exact .inl rfl
  · exact .inr (.inl rfl)
  · exact .inr (.inr ⟨0#8, rfl⟩)

/-! ### Power -/

/-- The least instance after reset, and a block at the bounds of R32: a full OUT, the greatest counts. -/
theorem witness_PowerDownNeedsAReset_typed :
    (Dev.reset least).Typed least ∧
    Dev.Typed least { Dev.reset least with
      ct := [⟨false, 63#6, 1#32, 1#16⟩], ctStage := 1#32, bytesRx := least.maxFrameBytes, pos := 2 ^ 32 - 1,
      buf := [true], pend := .unknownCode, out := [1#16], symCount := 2 ^ 32 - 1, errCode := .frameTooLong } :=
  ⟨⟨by decide, by decide, by simp [Dev.reset], by simp [Dev.reset], by simp [Dev.reset],
      ⟨by decide, by decide⟩⟩,
    ⟨by decide, by decide, by simp, by simp [least], by simp [least], ⟨by decide, by decide⟩⟩⟩

/-- Two blocks of equal parameters and counts that differ before a power-down. -/
theorem witness_PowerDownNeedsAReset_forgets :
    (at' p4 done4).cfg = (at' p4 run1).cfg ∧ (at' p4 done4).freeUses = (at' p4 run1).freeUses ∧
    (at' p4 done4).dev ≠ (at' p4 run1).dev := by decide

/-- What a power-down leaves, with a byte written to it: still lost. And the three frame states outside a frame. -/
theorem witness_PowerDownNeedsAReset :
    (∃ s t : State, s.lost = true ∧ step s = .next t ∧
      ∀ rest, s.schedule ≠ .reset :: rest ∧ ∀ a, s.schedule ≠ .accessInReset a :: rest) ∧
    (at' p4 run1).cfg.Legal ∧
    (∀ d ∈ [idle4, done4, error4], (at' p4 d).dev.fstate = .idle ∨ (at' p4 d).dev.fstate = .done ∨
      (at' p4 d).dev.fstate = .error) ∧
    (at' p4 idle4).schedule = [] ∧ (at' p4 idle4 [.engine]).schedule = [.engine] :=
  ⟨⟨(at' p4 run1 [opPush p4 0#8]).powerDown, _, rfl, rfl, fun rest => ⟨by simp [State.powerDown, at', opPush, wrOp],
    by simp [State.powerDown, at', opPush, wrOp]⟩⟩, by decide, by decide, rfl, rfl⟩

end Sys2Proof.Tests
end

/-!
PROOFS. The derived quantities of R34: what the table's count and greatest length say of its entries, and the
remaining quantities as conditions on the variables.
-/

namespace Sys2Proof.Machine

/-! ### The table's count and greatest length -/

@[simp] theorem tableLMax_nil : tableLMax [] = 0 := rfl

@[simp] theorem tableLMax_cons (e : Entry) (tbl : List Entry) :
    tableLMax (e :: tbl) = if e.valid then max e.len.toNat (tableLMax tbl) else tableLMax tbl := rfl

/-- `tableLMax` bounds the length of every valid entry. -/
theorem len_le_tableLMax {tbl : List Entry} {e : Entry} (he : e ∈ tbl) (hv : e.valid = true) :
    e.len.toNat ≤ tableLMax tbl := by
  induction tbl with
  | nil => cases he
  | cons a tbl ih =>
    rcases List.mem_cons.mp he with rfl | he
    · simp [hv]
    · have hle : e.len.toNat ≤ tableLMax tbl := ih he
      rw [tableLMax_cons]
      split <;> omega

/-- Whatever `tableLMax` gives other than 0 is the length of a valid entry. -/
theorem tableLMax_eq_zero_or_attained (tbl : List Entry) :
    tableLMax tbl = 0 ∨ ∃ e ∈ tbl, e.valid = true ∧ e.len.toNat = tableLMax tbl := by
  induction tbl with
  | nil => exact .inl rfl
  | cons a tbl ih =>
    by_cases hhead : a.valid = true ∧ tableLMax tbl ≤ a.len.toNat
    case pos =>
      obtain ⟨hv, hle⟩ := hhead
      exact .inr ⟨a, List.mem_cons_self, hv, by simp [hv, hle]⟩
    case neg =>
      have htail : tableLMax (a :: tbl) = tableLMax tbl := by
        rw [tableLMax_cons]
        split
        case isTrue hv => exact max_eq_right (not_le.mp fun hle => hhead ⟨hv, hle⟩).le
        case isFalse => rfl
      rw [htail]
      exact ih.imp_right fun ⟨e, he, h⟩ => ⟨e, List.mem_cons_of_mem a he, h⟩

/-- An empty table has greatest length 0 (R34). -/
theorem tableLMax_of_tableCount_eq_zero {tbl : List Entry} (h : tableCount tbl = 0) : tableLMax tbl = 0 := by
  rcases tableLMax_eq_zero_or_attained tbl with h0 | ⟨e, he, hv, -⟩
  · exact h0
  · exact absurd hv (List.countP_eq_zero.mp h e he)

/-- The greatest length of a table that is not empty is the length of one of its valid entries, also when all
these lengths are 0. -/
theorem exists_len_eq_tableLMax {tbl : List Entry} (h : 1 ≤ tableCount tbl) :
    ∃ e ∈ tbl, e.valid = true ∧ e.len.toNat = tableLMax tbl := by
  rcases tableLMax_eq_zero_or_attained tbl with h0 | hex
  · obtain ⟨e, he, hv⟩ := List.countP_pos_iff.mp h
    have hle : e.len.toNat ≤ tableLMax tbl := len_le_tableLMax he hv
    exact ⟨e, he, hv, by omega⟩
  · exact hex

/-- CT_COUNT and LMAX_T as R34 describes them. -/
theorem Dev.ctCount_lMaxT_spec (d : Dev) :
    d.ctCount = (d.ct.filter (·.valid)).length ∧
    (∀ e ∈ d.ct, e.valid = true → e.len.toNat ≤ d.lMaxT) ∧
    (d.ctCount = 0 → d.lMaxT = 0) ∧
    (1 ≤ d.ctCount → ∃ e ∈ d.ct, e.valid = true ∧ e.len.toNat = d.lMaxT) :=
  ⟨List.countP_eq_length_filter, fun _ => len_le_tableLMax, tableLMax_of_tableCount_eq_zero,
    exists_len_eq_tableLMax⟩

/-! ### The other quantities -/

/-- `D` over the integers: the truncated difference is the `max` of R34. -/
theorem Dev.decodable_int (d : Dev) :
    (d.decodable : Int) = if d.fstate = .run then max 0 ((d.rBits : Int) - d.pad.toNat - d.pos) else 0 := by
  rw [Dev.decodable]
  split
  · omega
  · rfl

/-- IN_READY, by frame state. -/
theorem Dev.inReady_iff (p : Params) (d : Dev) :
    d.inReady p = true ↔
      d.fstate = .header ∨
      (d.fstate = .run ∧ d.ended = false ∧ p.bufBits - d.buf.length ≥ 8 ∧ d.bytesRx < p.maxFrameBytes) ∨
      (d.fstate = .drain ∧ d.bytesRx < p.maxFrameBytes) := by
  cases h : d.fstate <;> simp [Dev.inReady, h]

theorem Dev.outValid_iff (d : Dev) : d.outValid = true ↔ 1 ≤ d.out.length := decide_eq_true_iff

theorem Dev.outFull_iff (p : Params) (d : Dev) : d.outFull p = true ↔ d.out.length = p.outDepth :=
  decide_eq_true_iff

/-- The interrupt output is high when a status bit and its enable are both set. -/
theorem Dev.irq_iff (d : Dev) :
    d.irq = true ↔
      (d.irqStat.getLsbD 0 = true ∧ d.irqEn.getLsbD 0 = true) ∨
      (d.irqStat.getLsbD 1 = true ∧ d.irqEn.getLsbD 1 = true) := by
  simp only [Dev.irq, Bool.or_eq_true, Bool.and_eq_true]

/-- Settles O10: R_BITS is its definition, and each other quantity has its lemma above. -/
theorem derivedQuantitiesAreComputed : Obligations.DerivedQuantitiesAreComputed :=
  ⟨fun _ => rfl, Dev.ctCount_lMaxT_spec, Dev.decodable_int, Dev.inReady_iff, Dev.outValid_iff,
    Dev.outFull_iff, Dev.active_iff, Dev.irq_iff⟩

end Sys2Proof.Machine

/-!
PROOFS. Misaligned and narrow accesses (R73): what an offset says of the operation it selects, how the block answers
each operation, and how an access of the window reaches it.
-/

namespace Sys2Proof

/-! ### What an offset says of the operation it selects -/

/-- The instruction is one of the three misaligned rows of R94. -/
def Instr.isMisaligned : Instr → Bool
  | .buserrMisaligned1 .. | .buserrMisaligned2 .. | .buserrMisaligned3 .. => true
  | _ => false

theorem selectRead_dir (off : Offset) : (selectRead off).dir = .read := by
  unfold selectRead
  split <;> rfl

theorem selectWrite_dir (off : Offset) (data : Word) : (selectWrite off data).dir = .write := by
  unfold selectWrite
  split <;> rfl

theorem selectRead_isMisaligned (off : Offset) : (selectRead off).isMisaligned = false := by
  unfold selectRead
  split <;> rfl

theorem selectWrite_isMisaligned (off : Offset) (data : Word) : (selectWrite off data).isMisaligned = false := by
  unfold selectWrite
  split <;> rfl

/-- An aligned offset selects a read or a write by the direction (R93). -/
theorem select_of_aligned {off : Offset} (h : off.toNat % 4 = 0) (dir : Dir) (data : Word) :
    select dir off data = match dir with | .read => selectRead off | .write => selectWrite off data := by
  cases dir <;> simp only [select, h]

/-- An offset that is not aligned selects one of the misaligned rows (R94), in either direction. -/
theorem select_of_misaligned {off : Offset} (h : off.toNat % 4 ≠ 0) (dir : Dir) (data : Word) :
    select dir off data = .buserrMisaligned1 dir off (dir.dataOf data) ∨
    select dir off data = .buserrMisaligned2 dir off (dir.dataOf data) ∨
    select dir off data = .buserrMisaligned3 dir off (dir.dataOf data) := by
  have hrem : off.toNat % 4 = 1 ∨ off.toNat % 4 = 2 ∨ off.toNat % 4 = 3 := by omega
  rcases hrem with h1 | h2 | h3
  · exact .inl (by simp only [select, h1])
  · exact .inr (.inl (by simp only [select, h2]))
  · exact .inr (.inr (by simp only [select, h3]))

/-- The selected operation has the direction of the transaction (R93). -/
@[simp] theorem select_dir (dir : Dir) (off : Offset) (data : Word) : (select dir off data).dir = dir := by
  by_cases h : off.toNat % 4 = 0
  · rw [select_of_aligned h]
    cases dir
    · exact selectRead_dir off
    · exact selectWrite_dir off data
  · rcases select_of_misaligned h dir data with e | e | e <;> rw [e] <;> rfl

/-- The misaligned rows are those of the offsets that are not aligned (R94). -/
theorem select_isMisaligned_iff (dir : Dir) (off : Offset) (data : Word) :
    (select dir off data).isMisaligned = true ↔ off.toNat % 4 ≠ 0 := by
  by_cases h : off.toNat % 4 = 0
  · rw [select_of_aligned h]
    cases dir
    · simp [selectRead_isMisaligned, h]
    · simp [selectWrite_isMisaligned, h]
  · rcases select_of_misaligned h dir data with e | e | e <;> rw [e] <;> exact iff_of_true rfl h

end Sys2Proof

namespace Sys2Proof.Machine

/-! ### How the block answers an operation -/

/-- BusError changes the answer on the bus and nothing else. -/
theorem State.busError_eq (s : State) (dir : Dir) :
    s.busError dir = { s with reply := some ⟨.busError, if dir = .read then some 0#32 else none⟩ } := by
  cases dir <;> rfl

theorem exec_of_isMisaligned {i : Instr} (h : i.isMisaligned = true) (s : State) :
    exec i s = .next (s.busError i.dir) := by
  cases i
  case buserrMisaligned1 | buserrMisaligned2 | buserrMisaligned3 => rfl
  all_goals cases h

/-- Every operation but the misaligned ones is answered OKAY, a read with data and a write without (R73). -/
theorem exec_okay {i : Instr} (h : i.isMisaligned = false) (s : State) :
    ∃ t rdata, exec i s = .next t ∧ t.reply = some ⟨.okay, rdata⟩ ∧ (rdata = none ↔ i.dir = .write) := by
  cases i
  case buserrMisaligned1 | buserrMisaligned2 | buserrMisaligned3 => cases h
  case rdDataOut =>
    cases hout : s.dev.out with
    | nil => exact ⟨s.okRead 0#32, _, by simp [exec, execRdDataOut, hout, readValue], rfl, by simp [Instr.dir]⟩
    | cons sym rest =>
      exact ⟨{ s with dev := s.dev.popOut }.okRead (symbolWord sym), _,
        by simp [exec, execRdDataOut, hout, readValue], rfl, by simp [Instr.dir]⟩
  all_goals exact ⟨_, _, rfl, rfl, by simp [Instr.dir]⟩

/-! ### How an access of the window reaches the block -/

section Window

variable {s : State} {a : Access} (hlo : s.cfg.base ≤ a.addr) (hhi : a.addr < s.cfg.base + 128)
include hlo hhi

/-- A narrow access is answered BusError. -/
theorem stepAccess_narrow (hn : a.whole = false) : stepAccess a s = .next (s.busError a.dir) := by
  simp [stepAccess, arrive, windowOffset, hlo, hhi, hn]

/-- A whole-word access runs the operation that its direction and offset select (R90, R93). -/
theorem stepAccess_whole (hw : a.whole = true) :
    stepAccess a s = exec (select a.dir (BitVec.ofNat 7 (a.addr - s.cfg.base)) a.data) s := by
  simp [stepAccess, arrive, windowOffset, hlo, hhi, hw]

end Window

/-- The offset of an address is aligned as its distance from `BASE` is: 128 is a multiple of 4. -/
theorem offset_mod_four (n : Nat) : (BitVec.ofNat 7 n).toNat % 4 = n % 4 := by
  rw [BitVec.toNat_ofNat]
  omega

theorem stepAccess_misaligned {s : State} {a : Access} (hlo : s.cfg.base ≤ a.addr)
    (hhi : a.addr < s.cfg.base + 128) (hm : (a.addr - s.cfg.base) % 4 ≠ 0) :
    stepAccess a s = .next (s.busError a.dir) := by
  cases hw : a.whole with
  | false => exact stepAccess_narrow hlo hhi hw
  | true =>
    rw [stepAccess_whole hlo hhi hw, exec_of_isMisaligned, select_dir]
    rwa [select_isMisaligned_iff, offset_mod_four]

theorem stepAccess_okay {s : State} {a : Access} (hlo : s.cfg.base ≤ a.addr) (hhi : a.addr < s.cfg.base + 128)
    (hw : a.whole = true) (ha : (a.addr - s.cfg.base) % 4 = 0) :
    ∃ t rdata, stepAccess a s = .next t ∧ t.reply = some ⟨.okay, rdata⟩ ∧ (rdata = none ↔ a.dir = .write) := by
  have hi : (select a.dir (BitVec.ofNat 7 (a.addr - s.cfg.base)) a.data).isMisaligned = false := by
    rw [← Bool.not_eq_true, select_isMisaligned_iff, offset_mod_four, not_not]
    exact ha
  have h := exec_okay hi s
  rwa [select_dir, ← stepAccess_whole hlo hhi hw] at h

/-- Settles O6: the misaligned rows by `exec_of_isMisaligned`, and an access by whether it is narrow, misaligned or
neither. -/
theorem busErrorChangesNothing : Obligations.BusErrorChangesNothing := by
  refine ⟨fun s dir off data i hi => ?_, fun s a hlo hhi h => ?_, fun s a hlo hhi hw ha => ?_⟩
  case refine_1 =>
    rw [← s.busError_eq dir]
    rcases hi with rfl | rfl | rfl <;> exact exec_of_isMisaligned rfl s
  case refine_2 =>
    rw [← s.busError_eq a.dir]
    rcases h with hn | hm
    · exact stepAccess_narrow hlo hhi hn
    · exact stepAccess_misaligned hlo hhi hm
  case refine_3 => exact stepAccess_okay hlo hhi hw ha

end Sys2Proof.Machine

/-!
PROOFS. The opcode table (R94): the row of the operation that a transaction word decodes to applies to the word, since
the operation is the word but for the data that a read ignores; and no other row does, since any two rows ask for
different values of a bit that both look at.
-/

namespace Sys2Proof

/-! ### The operation that a word decodes to has the word's fields -/

theorem selectRead_off {off : Offset} (h : off.toNat % 4 = 0) : (selectRead off).off = off := by
  unfold selectRead
  split <;> simp only [Instr.off] <;> bv_omega

theorem selectWrite_off {off : Offset} (h : off.toNat % 4 = 0) (data : Word) :
    (selectWrite off data).off = off := by
  unfold selectWrite
  split <;> simp only [Instr.off] <;> bv_omega

/-- The selected operation has the offset of the transaction (R93). -/
@[simp] theorem select_off (dir : Dir) (off : Offset) (data : Word) : (select dir off data).off = off := by
  by_cases h : off.toNat % 4 = 0
  · rw [select_of_aligned h]
    cases dir
    · exact selectRead_off h
    · exact selectWrite_off h data
  · rcases select_of_misaligned h dir data with e | e | e <;> rw [e] <;> rfl

theorem selectRead_data (off : Offset) : (selectRead off).data = 0#32 := by
  unfold selectRead
  split <;> rfl

theorem selectWrite_data (off : Offset) (data : Word) : (selectWrite off data).data = data := by
  unfold selectWrite
  split <;> rfl

/-- The selected operation has the data of the transaction, which a read ignores (R91; log entry 6). -/
@[simp] theorem select_data (dir : Dir) (off : Offset) (data : Word) :
    (select dir off data).data = dir.dataOf data := by
  by_cases h : off.toNat % 4 = 0
  · rw [select_of_aligned h]
    cases dir
    · exact selectRead_data off
    · exact selectWrite_data off data
  · rcases select_of_misaligned h dir data with e | e | e <;> rw [e] <;> rfl

theorem encode_decode (t : TWord) :
    encode (decode t) = mkTWord (twDir t) (twOff t) ((twDir t).dataOf (twData t)) := by
  rw [encode, decode, select_dir, select_off, select_data]

/-! ### The operation that a word decodes to is well formed -/

theorem reserved5_of_aligned : ∀ off : Offset, off.toNat % 4 = 0 → 20 ≤ off.toNat / 4 → off.toNat / 4 < 24 →
    off.reserved5 = true := by decide

theorem reserved6_of_aligned : ∀ off : Offset, off.toNat % 4 = 0 → 24 ≤ off.toNat / 4 →
    off.reserved6 = true := by decide

theorem misaligned_of_mod_four : ∀ off : Offset, off.misaligned (BitVec.ofNat 7 (off.toNat % 4)) = true := by decide

theorem dataOk_dataOf (dir : Dir) (data : Word) : dir.dataOk (dir.dataOf data) = true := by
  cases dir <;> rfl

theorem selectRead_wellFormed {off : Offset} (h : off.toNat % 4 = 0) : (selectRead off).wellFormed = true := by
  unfold selectRead
  split
  case h_21 | h_22 | h_23 | h_24 => exact reserved5_of_aligned off h (by omega) (by omega)
  case h_25 => exact reserved6_of_aligned off h (by simp only [imp_false] at *; omega)
  all_goals rfl

theorem selectWrite_wellFormed {off : Offset} (h : off.toNat % 4 = 0) (data : Word) :
    (selectWrite off data).wellFormed = true := by
  unfold selectWrite
  split
  case h_21 | h_22 | h_23 | h_24 => exact reserved5_of_aligned off h (by omega) (by omega)
  case h_25 => exact reserved6_of_aligned off h (by simp only [imp_false] at *; omega)
  all_goals rfl

theorem select_wellFormed (dir : Dir) (off : Offset) (data : Word) : (select dir off data).wellFormed = true := by
  have hm := misaligned_of_mod_four off
  have hd := dataOk_dataOf dir data
  have hrem : off.toNat % 4 = 0 ∨ off.toNat % 4 = 1 ∨ off.toNat % 4 = 2 ∨ off.toNat % 4 = 3 := by omega
  rcases hrem with h | h | h | h
  · rw [select_of_aligned h]
    cases dir
    · exact selectRead_wellFormed h
    · exact selectWrite_wellFormed h data
  all_goals
    rw [h] at hm
    simp only [select, h, Instr.wellFormed, hd, Bool.and_true]
    exact hm

theorem decode_wellFormed (t : TWord) : (decode t).wellFormed = true := select_wellFormed _ _ _

/-! ### The row of the decoded operation applies to the word -/

/-- Every instruction has its lemma of the family `WordMatchesRow`. -/
theorem Laws.WordMatchesRow.statement (i : Instr) : Statement i := by
  cases i
  exacts [rdId, rdParam, rdCtrl, rdStatus, rdFlags, rdIrqEn, rdIrqStat, rdErrCode, rdErrPos, rdPad, rdByteCount,
    rdBitPos, rdSymCount, rdCtIndex, rdCtCode, rdCtEntry, rdCtRcode, rdCtCount, rdDataIn, rdDataOut,
    wrRoId _, wrRoParam _, wrCtrl _, wrRoStatus _, wrFlags _, wrIrqEn _, wrIrqStat _, wrRoErrCode _, wrRoErrPos _,
    wrRoPad _, wrRoByteCount _, wrRoBitPos _, wrRoSymCount _, wrCtIndex _, wrCtCode _, wrCtEntry _, wrRoCtRcode _,
    wrRoCtCount _, wrDataIn _, wrRoDataOut _, rdRsvd505c _, rdRsvd607c _, wrRsvd505c _ _, wrRsvd607c _ _,
    buserrMisaligned1 _ _ _, buserrMisaligned2 _ _ _, buserrMisaligned3 _ _ _]

theorem OpcodeRow.applies_iff (r : OpcodeRow) (t : TWord) : r.applies t = true ↔ t &&& r.mask = r.bits := beq_iff_eq

theorem opcodeRows_mask_without_data : ∀ r ∈ opcodeRows, r.mask.setWidth 32 = 0#32 := by decide

/-- No row looks at the data of a word (R94). -/
theorem applies_mkTWord {r : OpcodeRow} (hr : r ∈ opcodeRows) (dir : Dir) (off : Offset) (data data' : Word) :
    r.applies (mkTWord dir off data) = r.applies (mkTWord dir off data') := by
  have hmask := opcodeRows_mask_without_data r hr
  rw [OpcodeRow.applies, OpcodeRow.applies, Laws.WordMatchesRow.and_mask_without_data _ _ data _ hmask,
    Laws.WordMatchesRow.and_mask_without_data _ _ data' _ hmask]

theorem exists_row_of_decode (t : TWord) :
    ∃ r ∈ opcodeRows, r.mnemonic = (decode t).mnemonic ∧ r.applies t = true := by
  obtain ⟨r, hr, hname, happ⟩ := Laws.WordMatchesRow.statement (decode t) (decode_wellFormed t)
  rw [encode_decode, applies_mkTWord hr _ _ _ (twData t), mkTWord_fields] at happ
  exact ⟨r, hr, hname, happ⟩

/-! ### No other row applies -/

/-- A bit that both rows look at has one value in `r` and the other in `r'`. -/
def OpcodeRow.conflicts (r r' : OpcodeRow) : Bool := r.bits &&& r'.mask != r'.bits &&& r.mask

theorem OpcodeRow.conflicts_symm : Std.Symm fun r r' : OpcodeRow => r.conflicts r' = true :=
  ⟨fun _ _ h => bne_comm.trans h⟩

theorem OpcodeRow.not_conflicts_of_applies {r r' : OpcodeRow} {t : TWord} (h : r.applies t = true)
    (h' : r'.applies t = true) : r.conflicts r' = false := by
  rw [applies_iff] at h h'
  simp only [conflicts, bne_eq_false_iff_eq, ← h, ← h']
  ac_rfl

theorem opcodeRows_conflict : opcodeRows.Pairwise (·.conflicts ·) := by decide

theorem row_unique {r r' : OpcodeRow} {t : TWord} (hr : r ∈ opcodeRows) (hr' : r' ∈ opcodeRows)
    (h : r.applies t = true) (h' : r'.applies t = true) : r = r' := by
  by_contra hne
  have := OpcodeRow.conflicts_symm
  have hc := opcodeRows_conflict.forall hr hr' hne
  rw [OpcodeRow.not_conflicts_of_applies h h'] at hc
  cases hc

theorem opcodeRows_nodup : opcodeRows.Nodup :=
  opcodeRows_conflict.imp fun hc heq => by simp [heq, OpcodeRow.conflicts] at hc

theorem filter_applies_eq_singleton {r : OpcodeRow} {t : TWord} (hr : r ∈ opcodeRows) (h : r.applies t = true) :
    opcodeRows.filter (·.applies t) = [r] := by
  rw [← List.perm_singleton, List.perm_ext_iff_of_nodup (opcodeRows_nodup.filter _) (List.nodup_singleton r)]
  intro r'
  rw [List.mem_filter, List.mem_singleton]
  exact ⟨fun ⟨hr', h'⟩ => row_unique hr' hr h' h, fun heq => heq ▸ ⟨hr, h⟩⟩

end Sys2Proof

namespace Sys2Proof.Machine

/-- Settles O3: the masks and matches are read off the table; the decoded instruction's row applies by
`exists_row_of_decode`, and it alone by `filter_applies_eq_singleton`. -/
theorem eachWordMatchesOneRow : Obligations.EachWordMatchesOneRow := by
  refine ⟨by decide, by decide, by decide, by decide, OpcodeRow.applies_iff, fun t => ?_⟩
  obtain ⟨r, hr, hname, happ⟩ := exists_row_of_decode t
  exact ⟨r, filter_applies_eq_singleton hr happ, hname⟩

end Sys2Proof.Machine

/-!
PROOFS. Match (R123) as a specification by hits: the shortest length and the least index. What the other rules say of
Match, its monotonicity (R127) and its uniqueness in a `PrefixCode` (R126), follows from that specification.
-/

namespace Sys2Proof.Machine

/-! ### Entries by index -/

theorem entryAt_of_lt {tbl : List Entry} {i : Nat} (h : i < tbl.length) : entryAt tbl i = tbl[i] :=
  List.getD_eq_getElem tbl Entry.invalid h

/-- A valid entry stands in the table. -/
theorem lt_length_of_valid {tbl : List Entry} {i : Nat} (h : (entryAt tbl i).valid = true) : i < tbl.length := by
  by_contra hi
  rw [entryAt, List.getD_eq_default _ _ (not_lt.mp hi)] at h
  cases h

theorem entryAt_mem {tbl : List Entry} {i : Nat} (h : (entryAt tbl i).valid = true) : entryAt tbl i ∈ tbl := by
  rw [entryAt_of_lt (lt_length_of_valid h)]
  exact List.getElem_mem _

/-! ### Hits -/

/-- Entry `i` hits the window at length `l`: it is in the set `L` of R123 that `l` is taken from. -/
def Hits (tbl : List Entry) (w : Bits) (l i : Nat) : Prop :=
  1 ≤ l ∧ l ≤ w.length ∧ (entryAt tbl i).valid = true ∧ (entryAt tbl i).len.toNat = l ∧
    (entryAt tbl i).codeBits = w.take l

section Hits

variable {tbl : List Entry} {w : Bits} {l i : Nat}

/-- A hit is a valid entry of length `l >= 1` whose code starts the window. -/
theorem hits_iff_prefix :
    Hits tbl w l i ↔ (entryAt tbl i).valid = true ∧ 1 ≤ l ∧ (entryAt tbl i).len.toNat = l ∧
      (entryAt tbl i).codeBits <+: w := by
  constructor
  · rintro ⟨h1, -, hv, hl, hc⟩
    exact ⟨hv, h1, hl, hc ▸ List.take_prefix l w⟩
  · rintro ⟨hv, h1, hl, hp⟩
    have hlen : (entryAt tbl i).codeBits.length = l := by rw [codeBits_length, hl]
    refine ⟨h1, hlen ▸ hp.length_le, hv, hl, ?_⟩
    rw [← hlen]
    exact List.prefix_iff_eq_take.mp hp

/-- A hit stays a hit however many bits follow. -/
theorem Hits.append (h : Hits tbl w l i) (x : Bits) : Hits tbl (w ++ x) l i := by
  obtain ⟨hv, h1, hl, hp⟩ := hits_iff_prefix.mp h
  exact hits_iff_prefix.mpr ⟨hv, h1, hl, List.prefix_append_of_prefix hp⟩

/-- A hit no longer than the window does not look at the bits that follow it. -/
theorem Hits.of_append {x : Bits} (h : Hits tbl (w ++ x) l i) (hw : l ≤ w.length) : Hits tbl w l i := by
  obtain ⟨h1, -, hv, hl, hc⟩ := h
  exact ⟨h1, hw, hv, hl, by rw [hc, List.take_append_of_le_length hw]⟩

theorem Hits.le_tableLMax (h : Hits tbl w l i) : l ≤ tableLMax tbl := by
  obtain ⟨-, -, hv, hl, -⟩ := h
  exact hl ▸ len_le_tableLMax (entryAt_mem hv) hv

/-! ### The least index -/

/-- `hitAt` finds hits at its length, and the first of them. -/
theorem hits_of_hitAt (h1 : 1 ≤ l) (hw : l ≤ w.length) (h : hitAt tbl w l = some i) :
    Hits tbl w l i ∧ ∀ j, Hits tbl w l j → i ≤ j := by
  obtain ⟨hi, hhit, hfirst⟩ := List.findIdx?_eq_some_iff_getElem.mp h
  simp only [Bool.and_eq_true, beq_iff_eq] at hhit hfirst
  rw [← entryAt_of_lt hi] at hhit
  refine ⟨⟨h1, hw, hhit⟩, fun j ⟨_, _, hj⟩ => ?_⟩
  by_contra hji
  refine hfirst j (not_le.mp hji) ?_
  rwa [← entryAt_of_lt]

theorem not_hits_of_hitAt_eq_none (h : hitAt tbl w l = none) : ¬ Hits tbl w l i := by
  rintro ⟨-, -, hv, hl, hc⟩
  have hmiss := List.findIdx?_eq_none_iff.mp h _ (entryAt_mem hv)
  simp [hv, hl, hc] at hmiss

end Hits

/-! ### The shortest length -/

section Match

variable {tbl : List Entry} {w : Bits} {h : Hit}

/-- Match finds a length at which some entry hits, and none before it does. -/
theorem hitAt_of_matchTable (hm : matchTable tbl w = some h) :
    hitAt tbl w h.len = some h.index ∧ h.sym = (entryAt tbl h.index).sym ∧
      ∀ l, 1 ≤ l → l < h.len → hitAt tbl w l = none := by
  obtain ⟨before, l, after, hrange, hhit, hmiss⟩ := List.findSome?_eq_some_iff.mp hm
  obtain ⟨i, hi, rfl⟩ := Option.map_eq_some_iff.mp hhit
  obtain ⟨k, -, rfl, hcons⟩ := List.range'_eq_append_iff.mp hrange
  obtain ⟨hl, -, -⟩ := List.range'_eq_cons_iff.mp hcons.symm
  refine ⟨hi, rfl, fun l' h1 (hlt : l' < l) => ?_⟩
  exact Option.map_eq_none_iff.mp (hmiss l' (List.mem_range'_1.mpr (by omega)))

/-- Match gives None exactly when there is no hit (R123). -/
theorem matchTable_eq_none_iff : matchTable tbl w = none ↔ ∀ l i, ¬ Hits tbl w l i := by
  constructor
  · intro hm l i hit
    have hmem : l ∈ List.range' 1 w.length := by
      obtain ⟨h1, hw, -⟩ := hit
      exact List.mem_range'_1.mpr (by omega)
    exact not_hits_of_hitAt_eq_none (Option.map_eq_none_iff.mp (List.findSome?_eq_none_iff.mp hm l hmem)) hit
  · intro hno
    cases hm : matchTable tbl w with
    | none => rfl
    | some h =>
      obtain ⟨h1, hw⟩ := matchTable_len hm
      exact absurd (hits_of_hitAt h1 hw (hitAt_of_matchTable hm).1).1 (hno _ _)

/-- `h` is the result of Match that R123 describes. -/
def Hit.IsMatch (h : Hit) (tbl : List Entry) (w : Bits) : Prop :=
  Hits tbl w h.len h.index ∧ h.sym = (entryAt tbl h.index).sym ∧
    (∀ l i, Hits tbl w l i → h.len ≤ l) ∧ ∀ i, Hits tbl w h.len i → h.index ≤ i

theorem isMatch_of_matchTable (hm : matchTable tbl w = some h) : h.IsMatch tbl w := by
  obtain ⟨h1, hw⟩ := matchTable_len hm
  obtain ⟨hhit, hsym, hmiss⟩ := hitAt_of_matchTable hm
  obtain ⟨hhits, hleast⟩ := hits_of_hitAt h1 hw hhit
  refine ⟨hhits, hsym, fun l i hit => ?_, hleast⟩
  by_contra hlt
  exact not_hits_of_hitAt_eq_none (hmiss l hit.1 (not_le.mp hlt)) hit

/-- There is only one such result. -/
theorem Hit.IsMatch.unique {h' : Hit} (hm : h.IsMatch tbl w) (hm' : h'.IsMatch tbl w) : h = h' := by
  obtain ⟨hhit, hsym, hshort, hleast⟩ := hm
  obtain ⟨hhit', hsym', hshort', hleast'⟩ := hm'
  have hlen : h.len = h'.len := le_antisymm (hshort _ _ hhit') (hshort' _ _ hhit)
  have hindex : h.index = h'.index := le_antisymm (hleast _ (hlen ▸ hhit')) (hleast' _ (hlen ▸ hhit))
  have hs : h.sym = h'.sym := by rw [hsym, hsym', hindex]
  cases h
  cases h'
  simp only [Hit.mk.injEq]
  exact ⟨hlen, hs, hindex⟩

/-- Match gives the shortest hit of the least index (R123). -/
theorem matchTable_eq_some_iff : matchTable tbl w = some h ↔ h.IsMatch tbl w := by
  refine ⟨isMatch_of_matchTable, fun hm => ?_⟩
  cases hm' : matchTable tbl w with
  | none => exact absurd hm.1 (matchTable_eq_none_iff.mp hm' _ _)
  | some h' => rw [hm.unique (isMatch_of_matchTable hm')]

/-! ### Window monotonicity (R127) -/

theorem matchTable_append_of_some (hm : matchTable tbl w = some h) (x : Bits) :
    matchTable tbl (w ++ x) = some h := by
  obtain ⟨hhit, hsym, hshort, hleast⟩ := matchTable_eq_some_iff.mp hm
  obtain ⟨-, hw⟩ := matchTable_len hm
  refine matchTable_eq_some_iff.mpr ⟨hhit.append x, hsym, fun l i hit => ?_, fun i hit => hleast i (hit.of_append hw)⟩
  by_contra hlt
  exact hlt (hshort l i (hit.of_append (by omega)))

theorem matchTable_append_of_none (hm : matchTable tbl w = none) (hw : tableLMax tbl ≤ w.length) (x : Bits) :
    matchTable tbl (w ++ x) = none :=
  matchTable_eq_none_iff.mpr fun _ _ hit =>
    matchTable_eq_none_iff.mp hm _ _ (hit.of_append (hit.le_tableLMax.trans hw))

end Match

/-- Settles O37: the specification of Match by hits. -/
theorem matchIsShortestThenLowest : Obligations.MatchIsShortestThenLowest :=
  fun _ _ => ⟨fun _ => isMatch_of_matchTable, matchTable_eq_none_iff⟩

/-- Settles O38: the first two cases by `Hits.append` and `Hits.of_append`; in the third, the window `1` before the
code `10` matches with a following `0` and not with a following `1`. -/
theorem matchIsMonotone : Obligations.MatchIsMonotone :=
  ⟨fun _ _ x _ hm => matchTable_append_of_some hm x, fun _ _ x hm hw => matchTable_append_of_none hm hw x,
    [⟨true, 2#6, 0b10#32, 0#16⟩], [true], [false], [true], by decide⟩

/-! ### Prefix codes (R126) -/

/-- Of two codes that start one sequence, one starts the other; in a `PrefixCode` they are one entry's. -/
theorem PrefixCode.index_unique {tbl : List Entry} (hpc : PrefixCode tbl) {w : Bits} {i j : Nat}
    (hi : (entryAt tbl i).valid = true) (hj : (entryAt tbl j).valid = true)
    (hiw : (entryAt tbl i).codeBits <+: w) (hjw : (entryAt tbl j).codeBits <+: w) : i = j := by
  rcases List.prefix_or_prefix_of_prefix hiw hjw with hij | hji
  · exact (hpc i j hi hj).2 hij
  · exact ((hpc j i hj hi).2 hji).symm

theorem PrefixCode.one_le_len {tbl : List Entry} (hpc : PrefixCode tbl) {i : Nat}
    (hi : (entryAt tbl i).valid = true) : 1 ≤ (entryAt tbl i).len.toNat := by
  rw [← codeBits_length]
  exact List.length_pos_iff.mpr (hpc i i hi hi).1

/-- In a `PrefixCode` Match returns the entry whose code starts the window: every hit is of that entry. -/
theorem PrefixCode.matchTable_eq {tbl : List Entry} (hpc : PrefixCode tbl) {w : Bits} {i : Nat}
    (hi : (entryAt tbl i).valid = true) (hiw : (entryAt tbl i).codeBits <+: w) :
    matchTable tbl w = some ⟨(entryAt tbl i).len.toNat, (entryAt tbl i).sym, i⟩ := by
  have honly : ∀ l j, Hits tbl w l j → i = j := fun l j hit => by
    obtain ⟨hj, -, -, hjw⟩ := hits_iff_prefix.mp hit
    exact hpc.index_unique hi hj hiw hjw
  refine matchTable_eq_some_iff.mpr
    ⟨hits_iff_prefix.mpr ⟨hi, hpc.one_le_len hi, rfl, hiw⟩, rfl, fun l j hit => ?_, fun j hit => (honly _ j hit).le⟩
  obtain rfl := honly l j hit
  obtain ⟨-, -, -, hl, -⟩ := hit
  exact hl.le

/-- Settles O40: `PrefixCode.index_unique` and `PrefixCode.matchTable_eq`. -/
theorem prefixCodeMatchesAreUnique : Obligations.PrefixCodeMatchesAreUnique :=
  fun _ _ hpc => ⟨fun _ _ => hpc.index_unique, fun _ => hpc.matchTable_eq⟩

end Sys2Proof.Machine

/-!
PROOFS. The decoders of R122 and R124: the bit-by-bit scan keeps a candidate that nothing matches yet, and the bit with
which its code is complete is the one at which Match finds that code.
-/

namespace Sys2Proof.Machine

/-! ### The candidate of the scan -/

section Candidate

variable {tbl : List Entry} {cand : Bits} {b : Bool}

/-- The candidate is a code exactly when the whole of it, as a window, is hit: a code has its entry's length. -/
theorem candidateHit_eq_hitAt (tbl : List Entry) (w : Bits) : candidateHit tbl w = hitAt tbl w w.length := by
  unfold candidateHit hitAt
  congr
  funext e
  have hlen : e.codeBits = w → e.len.toNat = w.length := fun h => by rw [← h, codeBits_length]
  rw [List.take_length, Bool.eq_iff_iff]
  simp only [Bool.and_eq_true, beq_iff_eq]
  tauto

/-- When nothing matches the candidate, the hits of the candidate with one more bit take all of it. -/
theorem Hits.len_of_concat {l i : Nat} (hnone : matchTable tbl cand = none) (hit : Hits tbl (cand ++ [b]) l i) :
    l = (cand ++ [b]).length := by
  have ⟨_, hle, _⟩ := hit
  have hgt : ¬ l ≤ cand.length := fun hw => matchTable_eq_none_iff.mp hnone l i (hit.of_append hw)
  rw [List.length_append, List.length_singleton] at hle ⊢
  omega

theorem one_le_length_concat : 1 ≤ (cand ++ [b]).length := by simp

/-- The scan emits where Match finds the code (R123). -/
theorem matchTable_concat_of_some {i : Nat} (hnone : matchTable tbl cand = none)
    (h : candidateHit tbl (cand ++ [b]) = some i) :
    matchTable tbl (cand ++ [b]) = some ⟨(cand ++ [b]).length, (entryAt tbl i).sym, i⟩ := by
  rw [candidateHit_eq_hitAt] at h
  obtain ⟨hhit, hleast⟩ := hits_of_hitAt one_le_length_concat le_rfl h
  exact matchTable_eq_some_iff.mpr ⟨hhit, rfl, fun _ _ hit => (hit.len_of_concat hnone).ge, hleast⟩

/-- Where the scan goes on, nothing matches yet. -/
theorem matchTable_concat_of_none (hnone : matchTable tbl cand = none) (h : candidateHit tbl (cand ++ [b]) = none) :
    matchTable tbl (cand ++ [b]) = none := by
  rw [candidateHit_eq_hitAt] at h
  refine matchTable_eq_none_iff.mpr fun l i hit => ?_
  obtain rfl := hit.len_of_concat hnone
  exact not_hits_of_hitAt_eq_none h hit

end Candidate

/-! ### The loop with Match -/

section Loop

variable (tbl : List Entry) (n pos : Nat)

@[simp] theorem decodeLoop_nil : decodeLoop tbl n [] pos = ⟨[], none⟩ := by
  cases n <;> rfl

variable {tbl} {s : Bits}

/-- The loop fails where nothing matches. -/
theorem decodeLoop_of_none (hs : s ≠ []) (hm : matchTable tbl s = none) :
    decodeLoop tbl n s pos = ⟨[], some pos⟩ := by
  cases s with
  | nil => exact absurd rfl hs
  | cons b s =>
    cases n with
    | zero => rfl
    | succ n => simp only [decodeLoop, hm]

/-- One turn of the loop takes the code that Match finds. -/
theorem decodeLoop_of_some {h : Hit} (hm : matchTable tbl s = some h) :
    decodeLoop tbl (n + 1) s pos =
      ⟨h.sym :: (decodeLoop tbl n (s.drop h.len) (pos + h.len)).syms,
        (decodeLoop tbl n (s.drop h.len) (pos + h.len)).failAt⟩ := by
  cases s with
  | nil => cases hm
  | cons b s => simp only [decodeLoop, hm]

end Loop

/-- The result of a decoder that has emitted `out` and then goes on as `d`. -/
def Decoded.resultAfter (out : List Symbol) (d : Decoded) : Result (List Symbol) :=
  match d.failAt with
  | some pos => .err .unknownCode pos
  | none => .ok (out ++ d.syms)

theorem Decoded.resultAfter_cons (out : List Symbol) (x : Symbol) (d : Decoded) :
    Decoded.resultAfter out ⟨x :: d.syms, d.failAt⟩ = d.resultAfter (out ++ [x]) := by
  simp only [resultAfter, List.append_assoc, List.singleton_append]

theorem decodeM_of_empty {tbl : List Entry} (h : tableCount tbl = 0) (s : Bits) :
    decodeM s tbl = .err .emptyCodeTable 0 := if_pos h

theorem decodeM_of_nonempty {tbl : List Entry} (h : tableCount tbl ≠ 0) (s : Bits) :
    decodeM s tbl = (decodeAll s tbl).resultAfter [] := if_neg h

/-- The scan with a candidate that nothing matches yet computes what the loop with Match does from the candidate's
start (R124). -/
theorem scanBits_eq_decodeLoop {tbl : List Entry} (s : Bits) {cand : Bits} (hnone : matchTable tbl cand = none)
    (start : Nat) (out : List Symbol) {n : Nat} (hn : (cand ++ s).length ≤ n) :
    scanBits tbl s (start + cand.length) cand start out =
      (decodeLoop tbl n (cand ++ s) start).resultAfter out := by
  induction s generalizing cand start out n with
  | nil =>
    rw [List.append_nil, scanBits]
    by_cases hc : cand = []
    · simp [hc, Decoded.resultAfter]
    · rw [if_neg hc, decodeLoop_of_none _ _ hc hnone, Decoded.resultAfter]
  | cons b s ih =>
    rw [List.append_cons] at hn ⊢
    rw [scanBits, Nat.add_assoc, ← List.length_singleton (a := b), ← List.length_append]
    cases hh : candidateHit tbl (cand ++ [b]) with
    | none => exact ih (matchTable_concat_of_none hnone hh) start out hn
    | some i =>
      have hm := matchTable_append_of_some (matchTable_concat_of_some hnone hh) s
      rw [List.length_append, List.length_append, List.length_singleton] at hn
      obtain ⟨m, rfl⟩ : ∃ m, n = m + 1 := ⟨n - 1, by omega⟩
      rw [decodeLoop_of_some _ _ hm, List.drop_left, Decoded.resultAfter_cons]
      exact ih (matchTable_nil tbl) _ _ (by simp only [List.nil_append]; omega)

/-- Settles O39: without an entry both report it, and else the scan from the first bit is `scanBits_eq_decodeLoop`
with the empty candidate. -/
theorem bitwiseScanEqualsMatchLoop : Obligations.BitwiseScanEqualsMatchLoop := by
  intro s tbl
  by_cases h : tableCount tbl = 0
  · rw [decodeM_of_empty h, decodeBitwise, if_pos h]
  · rw [decodeM_of_nonempty h, decodeBitwise, if_neg h]
    exact scanBits_eq_decodeLoop s (matchTable_nil tbl) 0 [] le_rfl

/-! ### Padding removal and Decompress (R121, R125) -/

theorem foldl_toBits (v n acc : Nat) :
    (toBits v n).foldl (fun v b => 2 * v + b.toNat) acc = acc * 2 ^ n + v % 2 ^ n := by
  induction n generalizing acc with
  | zero => simp [toBits, Nat.mod_one]
  | succ n ih =>
    rw [toBits, List.foldl_cons, ih, Nat.toNat_testBit, Nat.mod_pow_succ]
    ring

/-- `valueMSB` undoes `toBits` (R8). -/
@[simp] theorem valueMSB_toBits (v n : Nat) : valueMSB (toBits v n) = v % 2 ^ n := by
  rw [valueMSB, foldl_toBits, Nat.zero_mul, Nat.zero_add]

@[simp] theorem valueMSB_bitsMSB8 (b : Byte) : valueMSB (bitsMSB8 b) = b.toNat := by
  rw [bitsMSB8, valueMSB_toBits, Nat.mod_eq_of_lt b.isLt]

/-- The first byte declares how many bits at the end of the payload are padding (R121). -/
theorem removePadding_cons (b : Byte) (rest : List Byte) :
    removePadding (b :: rest) =
      if 8 * rest.length < b.toNat then .err .truncatedStream (8 * (b :: rest).length)
      else .ok ((bitsOfBytes rest).take (8 * rest.length - b.toNat)) := by
  have hlen : ¬ (bitsOfBytes (b :: rest)).length < 8 := by simp
  rw [removePadding, removePaddingBits, if_neg hlen, bitsOfBytes_length, bitsOfBytes_cons,
    List.take_left' (bitsMSB8_length b), List.drop_left' (bitsMSB8_length b)]
  simp only [valueMSB_bitsMSB8, bitsOfBytes_length, gt_iff_lt]

section Decompress

variable {bytes : List Byte} {tbl : List Entry}

theorem decompress_of_removePadding_err {kind : ErrCode} {pos : Nat} (h : removePadding bytes = .err kind pos) :
    decompress bytes tbl = .err kind pos := by
  simp only [decompress, h]

theorem decompress_of_empty {s : Bits} (h : removePadding bytes = .ok s) (h0 : tableCount tbl = 0) :
    decompress bytes tbl = .err .emptyCodeTable 0 := by
  simp only [decompress, h, decodeM_of_empty h0]

/-- With an entry in the table the only failure of the decoder is UnknownCode, which Decompress moves past the first
byte. -/
theorem decompress_of_nonempty {s : Bits} (h : removePadding bytes = .ok s) (h0 : tableCount tbl ≠ 0) :
    decompress bytes tbl =
      match decodeM s tbl with
      | .ok syms => .ok syms
      | .err kind q => .err kind (8 + q) := by
  simp only [decompress, h, decodeM_of_nonempty h0, Decoded.resultAfter]
  cases (decodeAll s tbl).failAt <;> rfl

end Decompress

/-- Settles O43: by what padding removal makes of the bytes, and then by whether the table has an entry. -/
theorem decompressPrecedence : Obligations.DecompressPrecedence := by
  refine fun bytes tbl => ⟨?_, ?_⟩
  · rintro rfl
    rfl
  · rintro b rest rfl
    have hpad := removePadding_cons b rest
    constructor
    · intro hlt
      exact decompress_of_removePadding_err (hpad.trans (if_pos hlt))
    · intro hle
      rw [if_neg (not_lt.mpr hle)] at hpad
      exact ⟨decompress_of_empty hpad, fun h => decompress_of_nonempty hpad (Nat.one_le_iff_ne_zero.mp h)⟩

end Sys2Proof.Machine

/-!
PROOFS. The code table's registers (R151 to R160): what the fields of a written word and of a read word are as numbers,
what a commit does, and what the invariant says of the selected entry and of the table's count.
-/

namespace Sys2Proof.Machine

/-! ### CT_INDEX and CT_CODE as written (R151, R159) -/

theorem indexField_eq (p : Params) (v : Word) : indexField p v = BitVec.ofNat 12 (v.toNat % 2 ^ p.ctIdxW) := by
  rw [indexField, ← BitVec.ofNat_toNat, lowBits_toNat]

theorem codeField_eq (p : Params) (v : Word) : codeField p v = BitVec.ofNat 32 (v.toNat % 2 ^ p.lMax) := rfl

/-- Settles O19: the two fields as numbers, by `indexField_eq` and `codeField_eq`. The instance need not be legal. -/
theorem indexAndCodeWrites : Obligations.IndexAndCodeWrites := by
  intro s v _
  rw [← indexField_eq, ← codeField_eq]
  exact ⟨rfl, rfl⟩

/-! ### CT_ENTRY as written (R152 to R154) -/

theorem entryLen_toNat (v : Word) : (entryLen v).toNat = v.toNat / 2 ^ 16 % 2 ^ 6 := by
  rw [entryLen, BitVec.extractLsb'_toNat, Nat.shiftRight_eq_div_pow]

theorem entryLen_eq (v : Word) : entryLen v = BitVec.ofNat 6 (v.toNat / 2 ^ 16 % 2 ^ 6) := by
  rw [← entryLen_toNat, BitVec.ofNat_toNat, BitVec.setWidth_eq]

theorem entrySym_eq (p : Params) (v : Word) :
    entrySym p v = BitVec.ofNat 16 (v.toNat % 2 ^ 16 % 2 ^ p.symW) := by
  rw [entrySym, lowBits, BitVec.extractLsb'_toNat, Nat.shiftRight_zero]

/-- The length check refuses a commit with VALID and a length that no entry can have (R154). -/
theorem lenRefused_iff (p : Params) (v : Word) :
    lenRefused p v = true ↔ v.getLsbD 31 = true ∧
      (v.toNat / 2 ^ 16 % 2 ^ 6 = 0 ∨ p.lMax < v.toNat / 2 ^ 16 % 2 ^ 6) := by
  simp only [lenRefused, entryValid, entryLen_toNat, Bool.and_eq_true, Bool.or_eq_true, decide_eq_true_eq]

theorem committedEntry_of_valid (p : Params) (stage : Word) {v : Word} (h : v.getLsbD 31 = true) :
    committedEntry p stage v =
      { valid := true, len := BitVec.ofNat 6 (v.toNat / 2 ^ 16 % 2 ^ 6),
        code := BitVec.ofNat 32 (stage.toNat % 2 ^ (v.toNat / 2 ^ 16 % 2 ^ 6)),
        sym := BitVec.ofNat 16 (v.toNat % 2 ^ 16 % 2 ^ p.symW) } := by
  rw [committedEntry, entryValid, if_pos h, lowBits, entryLen_toNat, entryLen_eq, entrySym_eq]

theorem committedEntry_of_not_valid (p : Params) (stage : Word) {v : Word} (h : v.getLsbD 31 = false) :
    committedEntry p stage v = Entry.invalid := by
  rw [committedEntry, entryValid, h, if_neg Bool.false_ne_true]

theorem Dev.active_eq_false_iff (d : Dev) :
    d.active = false ↔ d.fstate = .idle ∨ d.fstate = .done ∨ d.fstate = .error := by
  cases h : d.fstate <;> simp [Dev.active, h]

/-- A commit that the table lock or the length check meets only sets CT_WERR (R153, R154). -/
theorem Dev.commitEntry_of_refused {p : Params} {d : Dev} {v : Word}
    (h : d.active = true ∨ lenRefused p v = true) : d.commitEntry p v = { d with ctWerr := true } := by
  rw [Dev.commitEntry]
  by_cases ha : d.active = true
  · rw [if_pos ha]
  · rw [if_neg ha, if_pos (h.resolve_left ha)]

/-- Any other commit stores its entry and moves the index (R152). -/
theorem Dev.commitEntry_of_accepted {p : Params} {d : Dev} {v : Word} (ha : d.active = false)
    (hl : ¬ lenRefused p v = true) :
    d.commitEntry p v =
      { d with
        ct := d.ct.set d.ctIndex.toNat (committedEntry p d.ctStage v)
        ctIndex := BitVec.ofNat 12 ((d.ctIndex.toNat + 1) % 2 ^ p.ctIdxW) } := by
  rw [Dev.commitEntry, ha, if_neg Bool.false_ne_true, if_neg hl]
  rfl

theorem exec_wrCtEntry (v : Word) (s : State) :
    exec (.wrCtEntry v) s = .next (s.written (s.dev.commitEntry s.cfg v)) := rfl

/-- Settles O20: a commit is accepted or refused, and an accepted one stores the entry that VALID asks for. -/
theorem commitStoresOrIsRefused : Obligations.CommitStoresOrIsRefused := by
  refine ⟨fun s v hidle => ?accepted, fun s v h => ?refused⟩
  case accepted =>
    rw [← Dev.active_eq_false_iff] at hidle
    constructor
    · intro hv h0 hle
      have hl : ¬ lenRefused s.cfg v = true := by
        rw [lenRefused_iff]
        omega
      rw [exec_wrCtEntry, Dev.commitEntry_of_accepted hidle hl, committedEntry_of_valid _ _ hv]
    · intro hv
      have hl : ¬ lenRefused s.cfg v = true := by
        rw [lenRefused_iff, hv]
        exact fun hr => Bool.false_ne_true hr.1
      rw [exec_wrCtEntry, Dev.commitEntry_of_accepted hidle hl, committedEntry_of_not_valid _ _ hv]
      rfl
  case refused =>
    rw [← Dev.active_iff, ← lenRefused_iff] at h
    rw [exec_wrCtEntry, Dev.commitEntry_of_refused h]

/-! ### The selected entry as read (R155, R156) -/

/-- The fields of CT_ENTRY side by side do not overlap (R44). -/
theorem entryWord_toNat (e : Entry) :
    (entryWord e).toNat = (e.valid.toNat <<< 31) ||| (e.len.toNat <<< 16) ||| e.sym.toNat := by
  simp only [entryWord, BitVec.toNat_append, BitVec.toNat_ofBool, BitVec.toNat_ofNat, Nat.zero_mod, Nat.or_zero,
    Nat.shiftLeft_or_distrib, ← Nat.shiftLeft_add]

theorem entryWord_eq (e : Entry) :
    entryWord e = BitVec.ofNat 32 ((e.valid.toNat <<< 31) ||| (e.len.toNat <<< 16) ||| e.sym.toNat) := by
  rw [← entryWord_toNat, BitVec.ofNat_toNat, BitVec.setWidth_eq]

theorem exec_rdCtEntry (s : State) :
    exec .rdCtEntry s = .next (s.answered (entryWord (entryAt s.dev.ct s.dev.ctIndex.toNat))) := rfl

theorem exec_rdCtRcode (s : State) :
    exec .rdCtRcode s = .next (s.answered (entryAt s.dev.ct s.dev.ctIndex.toNat).code) := rfl

theorem exec_rdCtIndex (s : State) :
    exec .rdCtIndex s = .next (s.answered (BitVec.ofNat 32 s.dev.ctIndex.toNat)) := by
  rw [BitVec.ofNat_toNat]
  rfl

/-- The entry at any index has R150's form when the entries of the table have it. -/
theorem entryAt_ok {p : Params} {tbl : List Entry} (h : ∀ e ∈ tbl, Entry.Ok p e) (i : Nat) :
    Entry.Ok p (entryAt tbl i) := by
  by_cases hi : i < tbl.length
  · rw [entryAt_of_lt hi]
    exact h _ (List.getElem_mem hi)
  · rw [entryAt, List.getD_eq_default _ _ (not_lt.mp hi)]
    exact ⟨nofun, fun _ => rfl⟩

theorem State.Inv.entryAt_ok {s : State} (h : s.Inv) (i : Nat) : Entry.Ok s.cfg (entryAt s.dev.ct i) :=
  Machine.entryAt_ok h.range.table.2 i

/-- No entry of R150's form has a code bit at or above its length. -/
theorem Entry.Ok.code_lt {p : Params} {e : Entry} (h : Entry.Ok p e) : e.code.toNat < 2 ^ e.len.toNat := by
  obtain ⟨hvalid, hinvalid⟩ := h
  cases hv : e.valid with
  | true =>
    obtain ⟨-, hcode, -⟩ := hvalid hv
    exact hcode
  | false =>
    rw [hinvalid hv]
    decide

/-! ### The table's count as read (R160) -/

theorem tableLMax_le_lMax {p : Params} {tbl : List Entry} (h : ∀ e ∈ tbl, Entry.Ok p e) :
    tableLMax tbl ≤ p.lMax := by
  rcases tableLMax_eq_zero_or_attained tbl with h0 | ⟨e, he, hv, hlen⟩
  · omega
  · obtain ⟨⟨-, hle⟩, -⟩ := (h e he).1 hv
    omega

/-- The two fields of CT_COUNT side by side do not overlap (R45). -/
theorem ctCountWord_toNat {d : Dev} (hlen : d.lMaxT < 2 ^ 6) (hcount : d.ctCount < 2 ^ 13) :
    (ctCountWord d).toNat = (d.lMaxT <<< 16) ||| d.ctCount := by
  simp only [ctCountWord, BitVec.toNat_append, BitVec.toNat_ofNat, Nat.zero_mod, Nat.zero_shiftLeft, Nat.zero_or,
    Nat.or_zero, ← Nat.shiftLeft_add, Nat.mod_eq_of_lt hlen, Nat.mod_eq_of_lt hcount]

theorem State.Inv.lMaxT_lt {s : State} (h : s.Inv) : s.dev.lMaxT < 2 ^ 6 := by
  have hle : s.dev.lMaxT ≤ s.cfg.lMax := tableLMax_le_lMax h.range.table.2
  obtain ⟨-, ⟨-, hlMax⟩, -⟩ := h.legal
  omega

theorem State.Inv.ctCount_lt {s : State} (h : s.Inv) : s.dev.ctCount < 2 ^ 13 := by
  obtain ⟨-, -, hidx, -⟩ := h.legal
  calc s.dev.ctCount
    _ ≤ s.dev.ct.length := List.countP_le_length
    _ = 2 ^ s.cfg.ctIdxW := h.range.table.1
    _ < 2 ^ 13 := Nat.pow_lt_pow_right (by decide) (by omega)

theorem exec_rdCtCount {s : State} (h : s.Inv) :
    exec .rdCtCount s = .next (s.answered (BitVec.ofNat 32 ((s.dev.lMaxT <<< 16) ||| s.dev.ctCount))) := by
  rw [← ctCountWord_toNat h.lMaxT_lt h.ctCount_lt, BitVec.ofNat_toNat, BitVec.setWidth_eq]
  rfl

theorem exec_rdCtCount_of_empty {s : State} (h : s.Inv) (h0 : s.dev.ctCount = 0) :
    exec .rdCtCount s = .next (s.answered 0#32) := by
  have hlen : s.dev.lMaxT = 0 := tableLMax_of_tableCount_eq_zero h0
  rw [exec_rdCtCount h, hlen, h0]
  rfl

/-- An invalid entry is all zero, and so is what is read of it (R150, R155, R156). -/
theorem exec_rdCtEntry_rdCtRcode_of_invalid {s : State} (h : s.Inv)
    (hv : (entryAt s.dev.ct s.dev.ctIndex.toNat).valid = false) :
    exec .rdCtEntry s = .next (s.answered 0#32) ∧ exec .rdCtRcode s = .next (s.answered 0#32) := by
  have he : entryAt s.dev.ct s.dev.ctIndex.toNat = Entry.invalid := (h.entryAt_ok _).2 hv
  rw [exec_rdCtEntry, exec_rdCtRcode, he]
  exact ⟨rfl, rfl⟩

/-- Settles O12: the five reads by their lemmas, and the corner cases by the form that the invariant gives the
entries. -/
theorem tableReads : Obligations.TableReads := by
  intro s
  refine ⟨⟨?_, exec_rdCtRcode s, exec_rdCtIndex s, rfl⟩, exec_rdCtCount, exec_rdCtCount_of_empty,
    exec_rdCtEntry_rdCtRcode_of_invalid, fun h => (h.entryAt_ok _).code_lt,
    fun h => h.range.selection.2⟩
  rw [exec_rdCtEntry, entryWord_eq]

end Sys2Proof.Machine

/-!
PROOFS. Frame control (R180 to R186): what a CTRL write does, command by command, and the edges of FSTATE, which only a
byte, the engine and the commands of CTRL move.
-/

namespace Sys2Proof.Machine

/-! ### A CTRL write and its commands (R180) -/

theorem exec_wrCtrl (v : Word) (s : State) : exec (.wrCtrl v) s = .next (s.written (s.dev.control v)) := rfl

@[simp] theorem Dev.control_none (d : Dev) : d.control 0#32 = d := rfl

@[simp] theorem Dev.control_start (d : Dev) : d.control 1#32 = d.start := rfl

@[simp] theorem Dev.control_end (d : Dev) : d.control 2#32 = d.endStream := rfl

@[simp] theorem Dev.control_abort (d : Dev) : d.control 4#32 = d.abort := rfl

@[simp] theorem Dev.control_ctClear (d : Dev) : d.control 8#32 = d.clearTable := rfl

/-- A CTRL write of one command's bit or of none is the command, given or not. -/
theorem exec_wrCtrl_command {bit : Word} {run : Dev → Dev} (hbit : ∀ d : Dev, d.control bit = run d) (given : Bool)
    (s : State) :
    exec (.wrCtrl (if given then bit else 0#32)) s = .next (s.written (s.dev.command given run)) := by
  cases given with
  | false => rw [if_neg Bool.false_ne_true, exec_wrCtrl, Dev.control_none, Dev.command_false]
  | true => rw [if_pos rfl, exec_wrCtrl, hbit, Dev.command_true]

/-- Settles O21: the four single-command writes by `exec_wrCtrl_command`, each from the state the one before it left;
their composition is `Dev.control`. -/
theorem controlRunsInOrder : Obligations.ControlRunsInOrder := fun s _ =>
  ⟨_, _, _, _, exec_wrCtrl_command Dev.control_abort _ s, exec_wrCtrl_command Dev.control_ctClear _ _,
    exec_wrCtrl_command Dev.control_start _ _, exec_wrCtrl_command Dev.control_end _ _, rfl, rfl⟩

/-! ### END (R182) -/

/-- `R_BITS` without its case: the truncated difference is 0 before the header byte. -/
theorem Dev.rBits_eq (d : Dev) : d.rBits = 8 * (d.bytesRx - 1) := by
  rw [Dev.rBits]
  split <;> omega

section EndStream

variable {d : Dev}

theorem Dev.endStream_of_header (hs : d.fstate = .header) : d.endStream = d.frameError .truncatedStream 0#32 := by
  simpa [hs] using d.endStream_cases

theorem Dev.endStream_of_truncated (hs : (d.fstate = .run ∧ d.ended = false) ∨ d.fstate = .drain)
    (hpad : d.rBits < d.pad.toNat) : d.endStream = d.frameError .truncatedStream d.rawBits := by
  rcases hs with ⟨hs, he⟩ | hs
  · simpa [hs, he, hpad, not_le.mpr hpad] using d.endStream_cases
  · simpa [hs, hpad, not_le.mpr hpad] using d.endStream_cases

theorem Dev.endStream_of_run (hs : d.fstate = .run) (he : d.ended = false) (hpad : d.pad.toNat ≤ d.rBits) :
    d.endStream = { d with ended := true } := by
  simpa [hs, he, hpad, not_lt.mpr hpad] using d.endStream_cases

theorem Dev.endStream_of_drain (hs : d.fstate = .drain) (hpad : d.pad.toNat ≤ d.rBits) :
    d.endStream = d.frameError d.pend d.pendPos := by
  simpa [hs, hpad, not_lt.mpr hpad] using d.endStream_cases

theorem Dev.endStream_of_closed
    (hs : d.fstate = .idle ∨ d.fstate = .done ∨ d.fstate = .error ∨ (d.fstate = .run ∧ d.ended = true)) :
    d.endStream = { d with cmdErr := true } := by
  rcases hs with hs | hs | hs | ⟨hs, he⟩
  case inr.inr.inr => simpa [hs, he] using d.endStream_cases
  all_goals simpa [hs] using d.endStream_cases

end EndStream

/-- In RUN, padding that exceeds the payload leaves nothing to decode, and nothing has been decoded. -/
theorem Dev.nothing_decoded_of_truncated {p : Params} {d : Dev} (hf : d.FrameInv p) (hr : d.RangeInv p)
    (hs : d.fstate = .run) (hpad : d.rBits < d.pad.toNat) : d.decodable = 0 ∧ d.symCount = 0 := by
  obtain ⟨-, hpos⟩ := hf.run_buf hs
  obtain ⟨-, hsym⟩ := hr.counters
  rw [Dev.decodable, if_pos hs]
  omega

/-- Settles O23: the rows of R182 by their equations above, and the two corner cases by the invariant. -/
theorem endClosesTheStream : Obligations.EndClosesTheStream := by
  intro s
  simp only [← s.dev.rBits_eq, exec_wrCtrl, Dev.control_end]
  refine ⟨fun hs => ?_, fun hs hpad => ?_, fun hs he hpad => ?_, fun hs hpad => ?_, fun hs => ?_,
    fun h => Dev.nothing_decoded_of_truncated h.frame h.range, fun h => h.range.pend_certain⟩
  · rw [Dev.endStream_of_header hs]
    rfl
  · rw [Dev.endStream_of_truncated hs hpad]
    rfl
  · rw [Dev.endStream_of_run hs he hpad]
  · rw [Dev.endStream_of_drain hs hpad]
    rfl
  · rw [Dev.endStream_of_closed hs]

/-! ### CT_CLEAR (R184) -/

theorem Dev.clearTable_of_active {d : Dev} (ha : d.active = true) : d.clearTable = { d with ctWerr := true } := by
  simpa [ha] using d.clearTable_cases

theorem Dev.clearTable_of_not_active {d : Dev} (ha : d.active = false) :
    d.clearTable = { d with ct := List.replicate d.ct.length Entry.invalid, ctIndex := 0#12 } := by
  simpa [ha] using d.clearTable_cases

/-- A table of invalid entries counts none. -/
theorem tableCount_replicate_invalid (n : Nat) : tableCount (List.replicate n Entry.invalid) = 0 :=
  List.countP_eq_zero.mpr fun e he => by rw [List.eq_of_mem_replicate he]; decide

/-- Settles O25: by whether the block is in a frame; the cleared table counts no entry, and so has no length. -/
theorem clearTableInvalidatesAll : Obligations.ClearTableInvalidatesAll := by
  refine fun s => ⟨fun hs => ?_, fun hs => ?_⟩
  · rw [exec_wrCtrl, Dev.control_ctClear, Dev.clearTable_of_not_active (s.dev.active_eq_false_iff.mpr hs)]
    have hcount := tableCount_replicate_invalid s.dev.ct.length
    exact ⟨_, rfl, rfl, hcount, tableLMax_of_tableCount_eq_zero hcount⟩
  · rw [exec_wrCtrl, Dev.control_ctClear, Dev.clearTable_of_active (s.dev.active_iff.mpr hs)]

/-! ### START and ABORT (R181, R183) -/

theorem Dev.start_of_active {d : Dev} (ha : d.active = true) : d.start = { d with cmdErr := true } := by
  simpa [ha] using d.start_cases

theorem Dev.start_of_not_active {d : Dev} (ha : d.active = false) :
    d.start = { d.frameClear with fstate := .header } := by
  simpa [ha] using d.start_cases

/-- Settles O22: by whether the block is in a frame. -/
theorem startOpensAFrame : Obligations.StartOpensAFrame := by
  refine fun s => ⟨fun hs => ?_, fun hs => ?_⟩
  · rw [exec_wrCtrl, Dev.control_start, Dev.start_of_not_active (s.dev.active_eq_false_iff.mpr hs)]
    rfl
  · rw [exec_wrCtrl, Dev.control_start, Dev.start_of_active (s.dev.active_iff.mpr hs)]

/-- Settles O24: ABORT has one case, `Dev.abort`, whose variables are those of FrameClear and FSTATE. -/
theorem abortReturnsToIdle : Obligations.AbortReturnsToIdle := by
  intro s
  rw [exec_wrCtrl, Dev.control_abort]
  rfl

/-! ### Write-only registers and reserved offsets (R186, R206, R97) -/

theorem readValue_eq (v : Word) (s : State) : readValue v s = .next (s.answered v) := rfl

theorem writeIgnored_eq (s : State) : writeIgnored s = .next (s.written s.dev) := rfl

/-- Settles O13: each of the four reads is `readValue` of 0, and each of the two writes is `writeIgnored`. -/
theorem writeOnlyAndReservedOffsets : Obligations.WriteOnlyAndReservedOffsets := fun s _ _ =>
  ⟨readValue_eq 0#32 s, readValue_eq 0#32 s, readValue_eq 0#32 s, readValue_eq 0#32 s, writeIgnored_eq s,
    writeIgnored_eq s⟩

/-! ### What an instruction does to the block -/

/-- What an instruction does to the block, once: one of the operations below, and otherwise nothing. -/
theorem exec_dev_cases {i : Instr} {s t : State} (h : exec i s = .next t) :
    t.dev = s.dev ∨
    (i = .rdDataOut ∧ t.dev = s.dev.popOut) ∨
    (∃ v, i = .wrCtrl v ∧ t.dev = s.dev.control v) ∨
    (∃ v, i = .wrFlags v ∧ t.dev = s.dev.clearFlags v) ∨
    (∃ v, i = .wrIrqEn v ∧ t.dev = { s.dev with irqEn := irqEnables v }) ∨
    (∃ v, i = .wrIrqStat v ∧ t.dev = { s.dev with irqStat := writeOneClear s.dev.irqStat v }) ∨
    (∃ v, i = .wrCtIndex v ∧ t.dev = { s.dev with ctIndex := indexField s.cfg v }) ∨
    (∃ v, i = .wrCtCode v ∧ t.dev = { s.dev with ctStage := codeField s.cfg v }) ∨
    (∃ v, i = .wrCtEntry v ∧ t.dev = s.dev.commitEntry s.cfg v) ∨
    (∃ v, i = .wrDataIn v ∧ t.dev = s.dev.pushByte s.cfg (dataByte v)) := by
  cases i
  case rdDataOut =>
    cases hout : s.dev.out with
    | nil =>
      rw [exec, execRdDataOut, hout] at h
      cases h
      exact .inl rfl
    | cons sym rest =>
      rw [exec, execRdDataOut, hout] at h
      cases h
      exact .inr (.inl ⟨rfl, rfl⟩)
  case wrCtrl | wrFlags | wrIrqEn | wrIrqStat | wrCtIndex | wrCtCode | wrCtEntry | wrDataIn =>
    cases h
    simp
  all_goals
    cases h
    exact .inl rfl

/-! ### The edges of FSTATE (R185) -/

theorem Dev.commitEntry_fstate (p : Params) (d : Dev) (v : Word) : (d.commitEntry p v).fstate = d.fstate := by
  simp only [Dev.commitEntry, apply_ite Dev.fstate, ite_self]

theorem exec_keeps_fstate {i : Instr} {s t : State} (h : exec i s = .next t) (hctrl : ∀ v, i ≠ .wrCtrl v)
    (hdata : ∀ v, i ≠ .wrDataIn v) : t.dev.fstate = s.dev.fstate := by
  rcases exec_dev_cases h with e | ⟨-, e⟩ | ⟨v, hi, -⟩ | ⟨v, -, e⟩ | ⟨v, -, e⟩ | ⟨v, -, e⟩ | ⟨v, -, e⟩ | ⟨v, -, e⟩ |
    ⟨v, -, e⟩ | ⟨v, hi, -⟩
  case inr.inr.inl => exact absurd hi (hctrl v)
  case inr.inr.inr.inr.inr.inr.inr.inr.inl => rw [e, Dev.commitEntry_fstate]
  case inr.inr.inr.inr.inr.inr.inr.inr.inr => exact absurd hi (hdata v)
  all_goals exact (congrArg Dev.fstate e).trans rfl

/-- The header byte, once: RUN with an entry in the table, and DRAIN with EmptyCodeTable pending without (R200). -/
theorem Dev.takeHeader_fstate (d : Dev) (b : Byte) :
    (1 ≤ d.ctCount ∧ (d.takeHeader b).fstate = .run) ∨
    (d.ctCount = 0 ∧ (d.takeHeader b).fstate = .drain ∧ (d.takeHeader b).pend = .emptyCodeTable) := by
  by_cases h : d.ctCount = 0
  · simp [Dev.takeHeader, h]
  · simp [Dev.takeHeader, h, Nat.one_le_iff_ne_zero]

/-- A byte moves FSTATE by the header's rule, or by one of the two limits of R202 and R204. -/
theorem Dev.pushByte_edge {p : Params} {d : Dev} (hcap : d.bytesRx ≤ p.maxFrameBytes) {b : Byte} {e : Dev}
    (he : d.pushByte p b = e) (hne : e.fstate ≠ d.fstate) :
    (d.fstate = .header ∧ e.fstate = .run ∧ 1 ≤ d.ctCount) ∨
    (d.fstate = .header ∧ e.fstate = .drain ∧ d.ctCount = 0 ∧ e.pend = .emptyCodeTable) ∨
    (d.fstate = .run ∧ e.fstate = .error ∧ e.errCode = .inputOverrun ∧ p.bufBits - d.buf.length < 8) ∨
    ((d.fstate = .run ∨ d.fstate = .drain) ∧ e.fstate = .error ∧ e.errCode = .frameTooLong ∧
      d.bytesRx = p.maxFrameBytes) := by
  subst he
  rcases d.pushByte_cases p b with ⟨hs, h⟩ | ⟨-, -, -, h⟩ | ⟨hs, hend, hready, h⟩ | ⟨hs, h⟩ | ⟨-, h⟩ <;>
    rw [h] at hne ⊢
  case inl =>
    rcases d.takeHeader_fstate b with ⟨hct, hrun⟩ | ⟨hct, hdrain, hpend⟩
    · exact .inl ⟨hs, hrun, hct⟩
    · exact .inr (.inl ⟨hs, hdrain, hct, hpend⟩)
  case inr.inr.inl =>
    by_cases hmax : d.bytesRx = p.maxFrameBytes
    · simp [Dev.refusePayload, hmax, hs]
    · have hfull : p.bufBits - d.buf.length < 8 := by
        by_contra hroom
        have hopen : d.inReady p = true := (d.inReady_iff p).mpr (.inr (.inl ⟨hs, hend, by omega, by omega⟩))
        exact Bool.false_ne_true (hready.symm.trans hopen)
      simp [Dev.refusePayload, hmax, hs, hfull]
  case inr.inr.inr.inl =>
    by_cases hmax : d.bytesRx = p.maxFrameBytes
    · simp [Dev.dropByte, hmax, hs]
    · simp [Dev.dropByte, hmax] at hne
  all_goals exact absurd rfl hne

/-- The engine moves FSTATE out of RUN only, by UNMATCH, FINISH or FAIL_END (R221). -/
theorem Dev.engineTurn_edge {p : Params} {d e : Dev} (he : d.engineTurn p = e) (hne : e.fstate ≠ d.fstate) :
    d.fstate = .run ∧
    ((e.fstate = .drain ∧ e.pend = .unknownCode ∧ d.ended = false) ∨
      (e.fstate = .done ∧ d.ended = true ∧ d.decodable = 0) ∨
      (e.fstate = .error ∧ e.errCode = .unknownCode ∧ d.ended = true ∧ 1 ≤ d.decodable ∧
        matchTable d.ct d.window = none)) := by
  subst he
  rcases d.engineTurn_cases p with h | ⟨hs, ⟨_, -, -, h⟩ | ⟨-, hend, -, h⟩ | ⟨-, hend, hdec, h⟩ |
    ⟨hnone, hend, hdec, h⟩⟩ <;> rw [h] at hne ⊢
  case inl | inr.inl => exact absurd rfl hne
  case inr.inr.inl => exact ⟨hs, .inl ⟨rfl, rfl, hend⟩⟩
  case inr.inr.inr.inl => exact ⟨hs, .inr (.inl ⟨rfl, hend, hdec⟩)⟩
  case inr.inr.inr.inr => exact ⟨hs, .inr (.inr ⟨rfl, rfl, hend, hdec, hnone⟩)⟩

theorem Dev.start_edge {d : Dev} (hne : d.start.fstate ≠ d.fstate) :
    (d.fstate = .idle ∨ d.fstate = .done ∨ d.fstate = .error) ∧ d.start.fstate = .header := by
  rcases d.start_cases with ⟨-, h⟩ | ⟨ha, h⟩ <;> rw [h] at hne ⊢
  · exact absurd rfl hne
  · exact ⟨d.active_eq_false_iff.mp ha, rfl⟩

/-- END moves FSTATE to ERROR only, by one of the three errors of R182. -/
theorem Dev.endStream_edge {d : Dev} (hne : d.endStream.fstate ≠ d.fstate) :
    d.endStream.fstate = .error ∧
    ((d.fstate = .header ∧ d.endStream.errCode = .truncatedStream) ∨
      (d.fstate = .run ∧ d.rBits < d.pad.toNat ∧ d.endStream.errCode = .truncatedStream) ∨
      (d.fstate = .drain ∧ (d.endStream.errCode = .truncatedStream ∨ d.endStream.errCode = d.pend))) := by
  rcases d.endStream_cases with ⟨hs, h⟩ | ⟨⟨hs, -⟩ | hs, hpad, h⟩ | ⟨-, -, -, h⟩ | ⟨hs, -, h⟩ | ⟨-, h⟩ <;>
    rw [h] at hne ⊢
  case inl => exact ⟨rfl, .inl ⟨hs, rfl⟩⟩
  case inr.inl.inl => exact ⟨rfl, .inr (.inl ⟨hs, hpad, rfl⟩)⟩
  case inr.inl.inr => exact ⟨rfl, .inr (.inr ⟨hs, .inl rfl⟩)⟩
  case inr.inr.inr.inl => exact ⟨rfl, .inr (.inr ⟨hs, .inr rfl⟩)⟩
  all_goals exact absurd rfl hne

@[simp] theorem Dev.clearTable_fstate (d : Dev) : d.clearTable.fstate = d.fstate := by
  rcases d.clearTable_cases with ⟨-, h⟩ | ⟨-, h⟩ <;> rw [h]

/-- A CTRL write leaves the block as its commands do. -/
theorem dev_of_exec_wrCtrl {v : Word} {s t : State} (h : exec (.wrCtrl v) s = .next t) :
    t.dev = s.dev.control v := by
  cases h
  rfl

/-- Settles O49: `exec_keeps_fstate` for the instructions that do not move FSTATE, and the edges of the byte, the
engine's turn and each command by their lemmas above. -/
theorem frameStateEdges : Obligations.FrameStateEdges := by
  refine ⟨fun i s t => exec_keeps_fstate, fun v s t hinv h => ?data, fun s => Dev.engineTurn_edge rfl,
    fun s t h => ?start, fun s t h => ?endStream, fun s t h => ?abort, fun s t h => ?ctClear, fun _ => rfl⟩
  case data =>
    cases h
    obtain ⟨-, -, hcap⟩ := hinv.frame.capacity
    exact Dev.pushByte_edge hcap rfl
  all_goals rw [dev_of_exec_wrCtrl h]
  case start => exact Dev.start_edge
  case endStream => exact Dev.endStream_edge
  case abort => rw [Dev.control_abort, Dev.abort_fstate]
  case ctClear => rw [Dev.control_ctClear, Dev.clearTable_fstate]

end Sys2Proof.Machine

/-!
PROOFS. Stream input and symbol output (R200 to R205): what a DATA_IN write does, rule by rule, and what a DATA_OUT
read gives.
-/

namespace Sys2Proof.Machine

/-! ### The byte of a DATA_IN write (R46, R74) -/

theorem exec_wrDataIn (v : Word) (s : State) :
    exec (.wrDataIn v) s = .next (s.written (s.dev.pushByte s.cfg (dataByte v))) := rfl

theorem dataByte_eq (v : Word) : dataByte v = BitVec.ofNat 8 (v.toNat % 256) :=
  BitVec.eq_of_toNat_eq (by simp [dataByte])

theorem dataByte_getLsbD (v : Word) {i : Nat} (hi : i < 8) : (dataByte v).getLsbD i = v.getLsbD i := by
  simp [dataByte, hi]

/-- The bits of a byte, most significant first (R74). -/
theorem bitsMSB8_eq (b : Byte) :
    bitsMSB8 b = [b.getLsbD 7, b.getLsbD 6, b.getLsbD 5, b.getLsbD 4, b.getLsbD 3, b.getLsbD 2, b.getLsbD 1,
      b.getLsbD 0] := rfl

/-! ### A byte, by the rule that takes it (R200 to R204) -/

theorem Dev.takeHeader_of_empty {d : Dev} (h : d.ctCount = 0) (b : Byte) :
    d.takeHeader b =
      { d with pad := b, padValid := true, bytesRx := 1, fstate := .drain, pend := .emptyCodeTable, pendPos := 0#32 } :=
  if_pos h

theorem Dev.takeHeader_of_nonempty {d : Dev} (h : 1 ≤ d.ctCount) (b : Byte) :
    d.takeHeader b = { d with pad := b, padValid := true, bytesRx := 1, fstate := .run } :=
  if_neg (Nat.one_le_iff_ne_zero.mp h)

/-- In RUN before END, IN_READY asks for room in the buffer and in the frame (R34). -/
theorem Dev.inReady_iff_of_run {p : Params} {d : Dev} (hs : d.fstate = .run) (he : d.ended = false) :
    d.inReady p = true ↔ p.bufBits - d.buf.length ≥ 8 ∧ d.bytesRx < p.maxFrameBytes := by
  simp [d.inReady_iff, hs, he]

section PushByte

variable {p : Params} {d : Dev} (b : Byte)

theorem Dev.pushByte_of_header (hs : d.fstate = .header) : d.pushByte p b = d.takeHeader b := by
  simpa [hs] using d.pushByte_cases p b

theorem Dev.pushByte_of_ready (hs : d.fstate = .run) (he : d.ended = false) (hr : d.inReady p = true) :
    d.pushByte p b = d.takePayload b := by
  simpa [hs, he, hr] using d.pushByte_cases p b

theorem Dev.pushByte_of_not_ready (hs : d.fstate = .run) (he : d.ended = false) (hr : d.inReady p = false) :
    d.pushByte p b = d.refusePayload p := by
  simpa [hs, he, hr] using d.pushByte_cases p b

theorem Dev.pushByte_of_drain (hs : d.fstate = .drain) : d.pushByte p b = d.dropByte p := by
  simpa [hs] using d.pushByte_cases p b

theorem Dev.pushByte_of_closed
    (hs : d.fstate = .idle ∨ d.fstate = .done ∨ d.fstate = .error ∨ (d.fstate = .run ∧ d.ended = true)) :
    d.pushByte p b = { d with cmdErr := true } := by
  rcases hs with hs | hs | hs | ⟨hs, he⟩
  case inr.inr.inr => simpa [hs, he] using d.pushByte_cases p b
  all_goals simpa [hs] using d.pushByte_cases p b

/-- At the frame limit RUN is not ready, so that it and DRAIN refuse the byte alike (R202, R204). -/
theorem Dev.pushByte_of_limit (hs : (d.fstate = .run ∧ d.ended = false) ∨ d.fstate = .drain)
    (hmax : d.bytesRx = p.maxFrameBytes) : d.pushByte p b = d.frameError .frameTooLong d.rawBits := by
  rcases hs with ⟨hs, he⟩ | hs
  · have hr : d.inReady p = false := by
      rw [← Bool.not_eq_true, Dev.inReady_iff_of_run hs he]
      omega
    rw [Dev.pushByte_of_not_ready b hs he hr, Dev.refusePayload, if_pos hmax]
  · rw [Dev.pushByte_of_drain b hs, Dev.dropByte, if_pos hmax]

theorem Dev.pushByte_of_overrun (hs : d.fstate = .run) (he : d.ended = false) (hr : d.inReady p = false)
    (hmax : d.bytesRx ≠ p.maxFrameBytes) : d.pushByte p b = d.frameError .inputOverrun d.rawBits := by
  rw [Dev.pushByte_of_not_ready b hs he hr, Dev.refusePayload, if_neg hmax]

theorem Dev.pushByte_of_dropped (hs : d.fstate = .drain) (hmax : d.bytesRx ≠ p.maxFrameBytes) :
    d.pushByte p b = { d with bytesRx := d.bytesRx + 1 } := by
  rw [Dev.pushByte_of_drain b hs, Dev.dropByte, if_neg hmax]

end PushByte

/-- Below the frame limit RUN is not ready after END or for want of room only. -/
theorem Dev.ended_or_full_of_not_ready {p : Params} {d : Dev} (hlt : d.bytesRx < p.maxFrameBytes)
    (hs : d.fstate = .run) (hr : d.inReady p = false) : d.ended = true ∨ p.bufBits - d.buf.length < 8 := by
  cases he : d.ended with
  | true => exact .inl rfl
  | false =>
    rw [← Bool.not_eq_true, Dev.inReady_iff_of_run hs he] at hr
    exact .inr (by omega)

/-- Settles O27: by whether the table has an entry. -/
theorem headerByteSetsPadding : Obligations.HeaderByteSetsPadding := by
  intro s v hs
  rw [exec_wrDataIn, Dev.pushByte_of_header _ hs, dataByte_eq]
  refine ⟨fun hct => ?_, fun hct => ?_⟩
  · rw [Dev.takeHeader_of_empty hct]
  · rw [Dev.takeHeader_of_nonempty hct]

/-- Settles O28: with room in the buffer and in the frame RUN is ready, and the byte's bits are those of the value
written. -/
theorem payloadByteAppendsItsBits : Obligations.PayloadByteAppendsItsBits := by
  intro s v hs he hlt hroom
  have hready : s.dev.inReady s.cfg = true := (Dev.inReady_iff_of_run hs he).mpr ⟨hroom, hlt⟩
  rw [exec_wrDataIn, Dev.pushByte_of_ready _ hs he hready, Dev.takePayload, bitsMSB8_eq]
  simp only [dataByte_getLsbD, Nat.reduceLT]

/-- Settles O29: the refused and the dropped byte by their equations above, and the buffer's room by
`Dev.ended_or_full_of_not_ready`. -/
theorem refusedAndDroppedBytes : Obligations.RefusedAndDroppedBytes := by
  intro s v
  rw [exec_wrDataIn]
  refine ⟨fun hs hmax => ?_, fun hs he hr hmax => ?_, Dev.ended_or_full_of_not_ready, fun hs hmax => ?_⟩
  · rw [Dev.pushByte_of_limit _ hs hmax]
    rfl
  · rw [Dev.pushByte_of_overrun _ hs he hr hmax]
    rfl
  · rw [Dev.pushByte_of_dropped _ hs hmax]

/-- Settles O30: the four conditions of R203 are those of `Dev.pushByte_of_closed`. -/
theorem byteOutsideAFrameIsIgnored : Obligations.ByteOutsideAFrameIsIgnored := by
  intro s v hs
  rw [exec_wrDataIn, Dev.pushByte_of_closed _ hs]

/-! ### DATA_OUT (R205) -/

/-- The fields of DATA_OUT side by side do not overlap (R46). -/
theorem symbolWord_toNat (sym : Symbol) : (symbolWord sym).toNat = (1 <<< 31) ||| sym.toNat := by
  simp only [symbolWord, BitVec.toNat_append, BitVec.toNat_ofNat]
  rfl

theorem symbolWord_eq (sym : Symbol) : symbolWord sym = BitVec.ofNat 32 ((1 <<< 31) ||| sym.toNat) := by
  rw [← symbolWord_toNat, BitVec.ofNat_toNat, BitVec.setWidth_eq]

theorem exec_rdDataOut_of_empty {s : State} (h : s.dev.out = []) :
    exec .rdDataOut s = .next (s.answered 0#32) := by
  rw [exec, execRdDataOut, h]
  rfl

theorem exec_rdDataOut_of_cons {s : State} {sym : Symbol} {rest : List Symbol} (h : s.dev.out = sym :: rest) :
    exec .rdDataOut s = .next (({ s with dev := s.dev.popOut }).answered (symbolWord sym)) := by
  rw [exec, execRdDataOut, h]
  rfl

/-- Settles O14: by whether OUT is empty. -/
theorem dataOutPopsTheHead : Obligations.DataOutPopsTheHead := by
  refine ⟨fun s sym rest h => ?_, fun s => exec_rdDataOut_of_empty⟩
  rw [exec_rdDataOut_of_cons h, symbolWord_eq, Dev.popOut, h, List.tail_cons]

end Sys2Proof.Machine

/-!
PROOFS. The decode engine (R220 to R228): which step is enabled in RUN, row by row of R221, and what the engine's turn
then does.
-/

namespace Sys2Proof.Machine

/-! ### The decodable window (R220) -/

theorem Dev.decodable_of_run {d : Dev} (hs : d.fstate = .run) : d.decodable = d.rBits - d.pad.toNat - d.pos :=
  if_pos hs

theorem Dev.window_length_le (d : Dev) : d.window.length ≤ d.decodable := List.length_take_le _ _

theorem Dev.matchTable_window_of_decodable_eq_zero {d : Dev} (h : d.decodable = 0) :
    matchTable d.ct d.window = none := by
  rw [Dev.window, h, List.take_zero, matchTable_nil]

/-- In RUN the table has a valid entry, so that `LMAX_T >= 1` (R221). -/
theorem Dev.RangeInv.one_le_lMaxT {p : Params} {d : Dev} (hr : d.RangeInv p) (hs : d.fstate = .run) :
    1 ≤ d.lMaxT := by
  obtain ⟨e, he, hv, hlen⟩ := exists_len_eq_tableLMax (hr.run_table hs)
  obtain ⟨⟨hpos, -⟩, -⟩ := (hr.table.2 e he).1 hv
  exact hpos.trans hlen.le

/-- At FINISH the decoded bits reach the padding, and the buffer holds just that (R227). -/
theorem Dev.padding_left_of_decodable_eq_zero {p : Params} {d : Dev} (hf : d.FrameInv p) (hr : d.RangeInv p)
    (hs : d.fstate = .run) (he : d.ended = true) (h0 : d.decodable = 0) :
    d.pos = d.rBits - d.pad.toNat ∧ d.buf.length = d.pad.toNat := by
  obtain ⟨hbuf, hpos⟩ := hf.run_buf hs
  have hpad : d.pad.toNat ≤ d.rBits := hr.ended_pad hs he
  rw [Dev.decodable_of_run hs] at h0
  omega

/-! ### The enabled step, by the rows of R221 -/

section EnabledStep

variable {p : Params} {d : Dev} (hs : d.fstate = .run)

include hs

theorem Dev.enabledStep_of_match {h : Hit} (hm : matchTable d.ct d.window = some h) :
    d.enabledStep p = if d.outFull p then none else some (.decode h) := by
  simp only [Dev.enabledStep, hs, hm]

theorem Dev.enabledStep_of_no_match (hm : matchTable d.ct d.window = none) :
    d.enabledStep p =
      if d.ended then if d.decodable = 0 then some .finish else some .failEnd
      else if d.lMaxT ≤ d.decodable then some .unmatch
      else none := by
  simp only [Dev.enabledStep, hs, hm]

theorem Dev.enabledStep_decode {h : Hit} (hm : matchTable d.ct d.window = some h)
    (hout : d.out.length ≠ p.outDepth) : d.enabledStep p = some (.decode h) := by
  rw [Dev.enabledStep_of_match hs hm, if_neg (mt (d.outFull_iff p).mp hout)]

theorem Dev.enabledStep_stall {h : Hit} (hm : matchTable d.ct d.window = some h)
    (hout : d.out.length = p.outDepth) : d.enabledStep p = none := by
  rw [Dev.enabledStep_of_match hs hm, if_pos ((d.outFull_iff p).mpr hout)]

variable (hm : matchTable d.ct d.window = none)

include hm

theorem Dev.enabledStep_unmatch (he : d.ended = false) (hlen : d.lMaxT ≤ d.decodable) :
    d.enabledStep p = some .unmatch := by
  rw [Dev.enabledStep_of_no_match hs hm, if_neg (ne_true_of_eq_false he), if_pos hlen]

theorem Dev.enabledStep_wait (he : d.ended = false) (hlen : d.decodable < d.lMaxT) : d.enabledStep p = none := by
  rw [Dev.enabledStep_of_no_match hs hm, if_neg (ne_true_of_eq_false he), if_neg hlen.not_ge]

theorem Dev.enabledStep_finish (he : d.ended = true) (h0 : d.decodable = 0) : d.enabledStep p = some .finish := by
  rw [Dev.enabledStep_of_no_match hs hm, if_pos he, if_pos h0]

theorem Dev.enabledStep_failEnd (he : d.ended = true) (h1 : 1 ≤ d.decodable) : d.enabledStep p = some .failEnd := by
  rw [Dev.enabledStep_of_no_match hs hm, if_pos he, if_neg (Nat.one_le_iff_ne_zero.mp h1)]

end EnabledStep

/-- Settles O32: each row of the table by its equation above, and LMAX_T by the entry that RUN was entered with. -/
theorem stepSelection : Obligations.StepSelection := fun _ _ hs =>
  ⟨fun _ => Dev.enabledStep_decode hs, fun _ => Dev.enabledStep_stall hs, Dev.enabledStep_unmatch hs,
    Dev.enabledStep_wait hs, Dev.enabledStep_finish hs, Dev.enabledStep_failEnd hs,
    fun _ hr => hr.one_le_lMaxT hs⟩

/-! ### The engine's turn, by the enabled step -/

theorem State.engineTurn_of_step {s : State} {e : EngineStep} (h : s.dev.enabledStep s.cfg = some e) :
    s.engineTurn = { s with dev := s.dev.takeStep e } := by
  rw [State.engineTurn, Dev.engineTurn, h]

theorem State.engineTurn_of_no_step {s : State} (h : s.dev.enabledStep s.cfg = none) : s.engineTurn = s := by
  rw [State.engineTurn, Dev.engineTurn, h]

/-- Settles O33: DECODE is enabled, and the match lies in the window, which has at most `D` bits. -/
theorem decodeEmitsOneSymbol : Obligations.DecodeEmitsOneSymbol := by
  intro s h hs hm hroom
  obtain ⟨hpos, hlen⟩ := matchTable_len hm
  refine ⟨?_, hpos, hlen.trans s.dev.window_length_le⟩
  rw [State.engineTurn_of_step (Dev.enabledStep_decode hs hm hroom.ne)]
  rfl

/-- Settles O34: UNMATCH is enabled. -/
theorem unmatchEntersDrain : Obligations.UnmatchEntersDrain := by
  intro s hs he hm hlen
  rw [State.engineTurn_of_step (Dev.enabledStep_unmatch hs hm he hlen)]
  rfl

/-- Settles O35: in a stall as in a wait no step is enabled, and then the turn is nothing. -/
theorem stallAndWaitChangeNothing : Obligations.StallAndWaitChangeNothing := by
  intro s hs hcase
  have hnone : s.dev.enabledStep s.cfg = none := by
    rcases hcase with ⟨⟨h, hm⟩, hout⟩ | ⟨he, hm, hlen⟩
    · exact Dev.enabledStep_stall hs hm hout
    · exact Dev.enabledStep_wait hs hm he hlen
  exact ⟨hnone, State.engineTurn_of_no_step hnone⟩

/-- Settles O36: with `D = 0` the window is empty and matches nothing, so that FINISH is enabled; with `D >= 1` and no
match it is FAIL_END. -/
theorem theEngineEndsTheFrame : Obligations.TheEngineEndsTheFrame := by
  refine fun s hs he => ⟨fun h0 => ⟨?_, fun hinv => ?_⟩, fun h1 hm => ?_⟩
  · have hm := Dev.matchTable_window_of_decodable_eq_zero h0
    rw [State.engineTurn_of_step (Dev.enabledStep_finish hs hm he h0)]
    rfl
  · exact Dev.padding_left_of_decodable_eq_zero hinv.frame hinv.range hs he h0
  · rw [State.engineTurn_of_step (Dev.enabledStep_failEnd hs hm he h1)]
    rfl

end Sys2Proof.Machine

/-!
PROOFS. Identification, status, flags and interrupt (R250 to R265): the register words as the numbers that the rules
give, what a write of FLAGS, IRQ_EN or IRQ_STAT leaves of each bit, and that no other instruction clears a status bit.
-/

namespace Sys2Proof.Machine

/-! ### ID and PARAM as read (R250, R251) -/

/-- The fields of PARAM side by side do not overlap, since the ranges of R5 fit them (R36). -/
theorem paramWord_toNat {p : Params} (h : p.Legal) :
    (paramWord p).toNat = (p.symW <<< 24) ||| (p.outDepth <<< 16) ||| (p.ctIdxW <<< 8) ||| p.lMax := by
  obtain ⟨⟨-, hsym⟩, ⟨-, hlen⟩, hidx, ⟨-, hout⟩, -⟩ := h
  have hsym8 : p.symW % 2 ^ 8 = p.symW := Nat.mod_eq_of_lt (by omega)
  have hout8 : p.outDepth % 2 ^ 8 = p.outDepth := Nat.mod_eq_of_lt (by omega)
  have hidx4 : p.ctIdxW % 2 ^ 4 = p.ctIdxW := Nat.mod_eq_of_lt (by omega)
  have hlen8 : p.lMax % 2 ^ 8 = p.lMax := Nat.mod_eq_of_lt (by omega)
  simp only [paramWord, BitVec.toNat_append, BitVec.toNat_ofNat, hsym8, hout8, hidx4, hlen8, Nat.zero_mod,
    Nat.or_zero, Nat.shiftLeft_or_distrib, ← Nat.shiftLeft_add]

theorem exec_rdParam (s : State) : exec .rdParam s = .next (s.answered (paramWord s.cfg)) := rfl

/-- Settles O8: ID is a constant, and PARAM is the number of `paramWord_toNat`. -/
theorem identificationReads : Obligations.IdentificationReads := by
  refine ⟨readValue_eq idWord, fun s h => ?_⟩
  rw [exec_rdParam, ← paramWord_toNat h, BitVec.ofNat_toNat, BitVec.setWidth_eq]

/-! ### STATUS as read (R252) -/

/-- The fields of STATUS side by side do not overlap when the two lengths fit theirs (R38). -/
theorem statusWord_toNat (p : Params) {d : Dev} (hbuf : d.buf.length < 2 ^ 10) (hout : d.out.length < 2 ^ 8) :
    (statusWord p d).toNat =
      (d.buf.length <<< 16) ||| (d.out.length <<< 8) ||| (d.padValid.toNat <<< 7) ||| ((d.outFull p).toNat <<< 6) |||
        (d.outValid.toNat <<< 5) ||| ((d.inReady p).toNat <<< 4) ||| (d.ended.toNat <<< 3) ||| d.fstate.code.toNat := by
  simp only [statusWord, BitVec.toNat_append, BitVec.toNat_ofBool, BitVec.toNat_ofNat, Nat.mod_eq_of_lt hbuf,
    Nat.mod_eq_of_lt hout, Nat.zero_mod, Nat.zero_shiftLeft, Nat.zero_or, Nat.shiftLeft_or_distrib,
    ← Nat.shiftLeft_add]

theorem State.Inv.buf_length_lt {s : State} (h : s.Inv) : s.dev.buf.length < 2 ^ 10 := by
  obtain ⟨-, hbuf, -⟩ := h.frame.capacity
  obtain ⟨-, -, -, -, ⟨-, hbits⟩, -⟩ := h.legal
  omega

theorem State.Inv.out_length_lt {s : State} (h : s.Inv) : s.dev.out.length < 2 ^ 8 := by
  obtain ⟨hout, -⟩ := h.frame.capacity
  obtain ⟨-, -, -, ⟨-, hdepth⟩, -⟩ := h.legal
  omega

theorem exec_rdStatus {s : State} (h : s.Inv) :
    exec .rdStatus s = .next (s.answered (BitVec.ofNat 32
      ((s.dev.buf.length <<< 16) ||| (s.dev.out.length <<< 8) ||| (s.dev.padValid.toNat <<< 7) |||
        ((s.dev.outFull s.cfg).toNat <<< 6) ||| (s.dev.outValid.toNat <<< 5) ||| ((s.dev.inReady s.cfg).toNat <<< 4) |||
        (s.dev.ended.toNat <<< 3) ||| s.dev.fstate.code.toNat))) := by
  rw [← statusWord_toNat s.cfg h.buf_length_lt h.out_length_lt, BitVec.ofNat_toNat, BitVec.setWidth_eq]
  rfl

/-- Settles O9: the word of `exec_rdStatus`, whose last field is the code of FSTATE. -/
theorem statusReadAssemblesItsFields : Obligations.StatusReadAssemblesItsFields := by
  intro s h
  rw [exec_rdStatus h]
  cases s.dev.fstate <;> rfl

/-! ### Flags, error record and counters as read (R253 to R265) -/

/-- The two flags side by side do not overlap (R39). -/
theorem flagsWord_toNat (d : Dev) : (flagsWord d).toNat = (d.cmdErr.toNat <<< 1) ||| d.ctWerr.toNat := by
  simp only [flagsWord, BitVec.toNat_append, BitVec.toNat_ofBool, BitVec.toNat_ofNat, Nat.zero_mod,
    Nat.zero_shiftLeft, Nat.zero_or]

theorem exec_rdFlags (s : State) :
    exec .rdFlags s = .next (s.answered (BitVec.ofNat 32 ((s.dev.cmdErr.toNat <<< 1) ||| s.dev.ctWerr.toNat))) := by
  rw [← flagsWord_toNat, BitVec.ofNat_toNat, BitVec.setWidth_eq]
  rfl

theorem exec_rdErrCode (s : State) :
    exec .rdErrCode s = .next (s.answered (s.dev.errCode.code.setWidth 32)) := rfl

theorem exec_rdPad (s : State) : exec .rdPad s = .next (s.answered (s.dev.pad.setWidth 32)) := rfl

/-- ERR_CODE is 0 in every frame state but ERROR (R35, item 7). -/
theorem exec_rdErrCode_of_ne_error {s : State} (h : s.Inv) (hs : s.dev.fstate ≠ .error) :
    exec .rdErrCode s = .next (s.answered 0#32) := by
  have he : s.dev.errCode = .noError := not_not.mp fun hne => hs (h.frame.err_code.mp hne)
  rw [exec_rdErrCode, he]
  rfl

/-- PAD is 0 until the header byte sets it (R42). -/
theorem exec_rdPad_of_not_padValid {s : State} (h : s.Inv) (hv : s.dev.padValid = false) :
    exec .rdPad s = .next (s.answered 0#32) := by
  rw [exec_rdPad, h.range.pad_zero hv]
  rfl

/-- Settles O11: each register shows its variable, a narrow one with zeros above it, ERR_CODE its code by cases; the
two corner cases are the lemmas above. -/
theorem statusRegisterReads : Obligations.StatusRegisterReads := by
  intro s
  simp only [BitVec.ofNat_toNat]
  refine ⟨⟨exec_rdFlags s, readValue_eq _ s, readValue_eq _ s, ?errCode, readValue_eq _ s, readValue_eq _ s,
    readValue_eq _ s, readValue_eq _ s, readValue_eq _ s⟩, exec_rdErrCode_of_ne_error, exec_rdPad_of_not_padValid⟩
  case errCode =>
    rw [exec_rdErrCode]
    cases s.dev.errCode <;> rfl

/-! ### Writes to read-only registers (R264) -/

/-- Settles O16: the meaning of each of the twelve is `writeIgnored`. -/
theorem readOnlyWritesAreIgnored : Obligations.ReadOnlyWritesAreIgnored := by
  intro s v i hi
  rw [← writeIgnored_eq]
  simp only [List.mem_cons, List.not_mem_nil, or_false] at hi
  rcases hi with rfl | rfl | rfl | rfl | rfl | rfl | rfl | rfl | rfl | rfl | rfl | rfl <;> rfl

/-! ### The write-1-to-clear registers (R33, R254, R258) -/

theorem clearMask_getLsbD (v : Word) {i : Nat} (hi : i < 2) : (clearMask v).getLsbD i = v.getLsbD i := by
  simp [clearMask, hi]

theorem Dev.clearFlags_eq (d : Dev) (v : Word) :
    d.clearFlags v =
      { d with
        ctWerr := if v.getLsbD 0 then false else d.ctWerr
        cmdErr := if v.getLsbD 1 then false else d.cmdErr } := by
  simp only [Dev.clearFlags, clearMask_getLsbD, Nat.reduceLT, Bool.if_false_left, Bool.decide_eq_true, Bool.and_comm]

theorem exec_wrFlags (v : Word) (s : State) : exec (.wrFlags v) s = .next (s.written (s.dev.clearFlags v)) := rfl

/-- Settles O17: the two flags by `Dev.clearFlags_eq`. -/
theorem flagsWriteClears : Obligations.FlagsWriteClears := by
  intro s v
  rw [exec_wrFlags, Dev.clearFlags_eq]

theorem writeOneClear_getLsbD (old : BitVec 2) (v : Word) {i : Nat} (hi : i < 2) :
    (writeOneClear old v).getLsbD i = if v.getLsbD i then false else old.getLsbD i := by
  simp only [writeOneClear, BitVec.getLsbD_and, BitVec.getLsbD_not, hi, clearMask_getLsbD, decide_true,
    Bool.true_and, Bool.if_false_left, Bool.decide_eq_true, Bool.and_comm]

/-! ### The interrupt output (R256, R287) -/

theorem irqEnables_eq (v : Word) : irqEnables v = BitVec.ofNat 2 (v.toNat % 4) :=
  BitVec.eq_of_toNat_eq (by simp [irqEnables])

theorem irqEnables_getLsbD (v : Word) {i : Nat} (hi : i < 2) : (irqEnables v).getLsbD i = v.getLsbD i := by
  simp [irqEnables, hi]

/-- The interrupt output with the enables of a written word. -/
theorem Dev.irq_of_irqEnables (d : Dev) (v : Word) :
    ({ d with irqEn := irqEnables v } : Dev).irq = true ↔
      (d.irqStat.getLsbD 0 = true ∧ v.getLsbD 0 = true) ∨ (d.irqStat.getLsbD 1 = true ∧ v.getLsbD 1 = true) := by
  simp only [Dev.irq_iff, irqEnables_getLsbD, Nat.reduceLT]

/-- The interrupt output is low when no status bit is set with its enable. -/
theorem Dev.irq_eq_false_iff (d : Dev) :
    d.irq = false ↔
      ¬ (d.irqStat.getLsbD 0 = true ∧ d.irqEn.getLsbD 0 = true) ∧
      ¬ (d.irqStat.getLsbD 1 = true ∧ d.irqEn.getLsbD 1 = true) := by
  rw [← Bool.not_eq_true, Dev.irq_iff, not_or]

/-! ### A status bit that is set stays set but for IRQ_STAT's write (R258, R287) -/

@[simp] theorem Dev.takeHeader_irqStat (d : Dev) (b : Byte) : (d.takeHeader b).irqStat = d.irqStat := by
  simp only [Dev.takeHeader, apply_ite Dev.irqStat, ite_self]

@[simp] theorem Dev.commitEntry_irqStat (p : Params) (d : Dev) (v : Word) :
    (d.commitEntry p v).irqStat = d.irqStat := by
  simp only [Dev.commitEntry, apply_ite Dev.irqStat, ite_self]

@[simp] theorem Dev.clearTable_irqStat (d : Dev) : d.clearTable.irqStat = d.irqStat := by
  rcases d.clearTable_cases with ⟨-, h⟩ | ⟨-, h⟩ <;> rw [h]

@[simp] theorem Dev.start_irqStat (d : Dev) : d.start.irqStat = d.irqStat := by
  rcases d.start_cases with ⟨-, h⟩ | ⟨-, h⟩
  · rw [h]
  · rw [h]
    exact d.frameClear_irqStat

section StatusBit

variable {d : Dev} {k : Nat} (hk : d.irqStat.getLsbD k = true)
include hk

/-- The error entry sets bit 1 and clears none (R290). -/
theorem Dev.frameError_keeps_irqStat (code : ErrCode) (pos : Word) :
    (d.frameError code pos).irqStat.getLsbD k = true := by
  rw [Dev.frameError_irqStat, BitVec.getLsbD_or, hk, Bool.true_or]

theorem Dev.pushByte_keeps_irqStat (p : Params) (b : Byte) : (d.pushByte p b).irqStat.getLsbD k = true := by
  rcases d.pushByte_cases p b with ⟨-, h⟩ | ⟨-, -, -, h⟩ | ⟨-, -, -, h⟩ | ⟨-, h⟩ | ⟨-, h⟩ <;> rw [h]
  case inl => rwa [Dev.takeHeader_irqStat]
  case inr.inr.inl =>
    rw [Dev.refusePayload]
    split <;> exact Dev.frameError_keeps_irqStat hk _ _
  case inr.inr.inr.inl =>
    rw [Dev.dropByte]
    split
    · exact Dev.frameError_keeps_irqStat hk _ _
    · exact hk
  all_goals exact hk

theorem Dev.endStream_keeps_irqStat : d.endStream.irqStat.getLsbD k = true := by
  rcases d.endStream_cases with ⟨-, h⟩ | ⟨-, -, h⟩ | ⟨-, -, -, h⟩ | ⟨-, -, h⟩ | ⟨-, h⟩ <;> rw [h]
  case inr.inr.inl | inr.inr.inr.inr => exact hk
  all_goals exact Dev.frameError_keeps_irqStat hk _ _

/-- A command, given or not, clears no status bit if it clears none when it runs. -/
theorem Dev.command_keeps_irqStat {run : Dev → Dev}
    (hrun : d.irqStat.getLsbD k = true → (run d).irqStat.getLsbD k = true) (given : Bool) :
    (d.command given run).irqStat.getLsbD k = true := by
  cases given with
  | false => exact hk
  | true => exact hrun hk

/-- Of the four commands only END touches a status bit, and it clears none. -/
theorem Dev.control_keeps_irqStat (v : Word) : (d.control v).irqStat.getLsbD k = true := by
  have habort := Dev.command_keeps_irqStat hk (run := Dev.abort) id (ctrlAbort v)
  have hclear := Dev.command_keeps_irqStat habort (run := Dev.clearTable) (by simp) (ctrlCtClear v)
  have hstart := Dev.command_keeps_irqStat hclear (run := Dev.start) (by simp) (ctrlStart v)
  exact Dev.command_keeps_irqStat hstart Dev.endStream_keeps_irqStat (ctrlEnd v)

end StatusBit

/-- Clearing the status bit is the only way to acknowledge the interrupt (R258). -/
theorem exec_keeps_irqStat {i : Instr} {s t : State} {k : Nat} (h : exec i s = .next t)
    (hi : ∀ v, i ≠ .wrIrqStat v) (hk : s.dev.irqStat.getLsbD k = true) : t.dev.irqStat.getLsbD k = true := by
  rcases exec_dev_cases h with e | ⟨-, e⟩ | ⟨v, -, e⟩ | ⟨v, -, e⟩ | ⟨v, -, e⟩ | ⟨v, hv, -⟩ | ⟨v, -, e⟩ | ⟨v, -, e⟩ |
    ⟨v, -, e⟩ | ⟨v, -, e⟩
  case inr.inr.inl => exact e ▸ Dev.control_keeps_irqStat hk v
  case inr.inr.inr.inr.inr.inl => exact absurd hv (hi v)
  case inr.inr.inr.inr.inr.inr.inr.inr.inl => rwa [e, Dev.commitEntry_irqStat]
  case inr.inr.inr.inr.inr.inr.inr.inr.inr => exact e ▸ Dev.pushByte_keeps_irqStat hk _ _
  all_goals
    rw [e]
    exact hk

/-- Settles O18: the enables by `irqEnables_eq`, the status bits by `writeOneClear_getLsbD`, and every other
instruction by `exec_keeps_irqStat`. -/
theorem interruptRegisterWrites : Obligations.InterruptRegisterWrites := by
  refine ⟨fun s v => ?_, fun i s t k => exec_keeps_irqStat, fun s v => ?_⟩
  · rw [← irqEnables_eq]
    exact ⟨rfl, s.dev.irq_of_irqEnables v⟩
  · exact ⟨writeOneClear s.dev.irqStat v, rfl, writeOneClear_getLsbD _ v (by decide),
      writeOneClear_getLsbD _ v (by decide), Dev.irq_eq_false_iff _⟩

end Sys2Proof.Machine

/-!
PROOFS. The frame error (R290, R291): a block in ERROR stays there with its error record, until START, ABORT or a
reset.
-/

namespace Sys2Proof.Machine

/-! ### A block in ERROR keeps its error record (R286) -/

@[simp] theorem Dev.commitEntry_errCode (p : Params) (d : Dev) (v : Word) :
    (d.commitEntry p v).errCode = d.errCode := by
  simp only [Dev.commitEntry, apply_ite Dev.errCode, ite_self]

@[simp] theorem Dev.commitEntry_errPos (p : Params) (d : Dev) (v : Word) :
    (d.commitEntry p v).errPos = d.errPos := by
  simp only [Dev.commitEntry, apply_ite Dev.errPos, ite_self]

@[simp] theorem Dev.clearTable_errCode (d : Dev) : d.clearTable.errCode = d.errCode := by
  rcases d.clearTable_cases with ⟨-, h⟩ | ⟨-, h⟩ <;> rw [h]

@[simp] theorem Dev.clearTable_errPos (d : Dev) : d.clearTable.errPos = d.errPos := by
  rcases d.clearTable_cases with ⟨-, h⟩ | ⟨-, h⟩ <;> rw [h]

/-- A CTRL write without START and ABORT is CT_CLEAR and END, each given or not. -/
theorem Dev.control_of_no_start_abort (d : Dev) {v : Word} (hstart : v.getLsbD 0 = false)
    (habort : v.getLsbD 2 = false) :
    d.control v = (d.command (ctrlCtClear v) Dev.clearTable).command (ctrlEnd v) Dev.endStream := by
  simp only [Dev.control, ctrlStart, ctrlAbort, hstart, habort, Dev.command_false]

/-- `e` is in ERROR with the error record of `d`. -/
def Dev.HoldsError (d e : Dev) : Prop := e.fstate = .error ∧ e.errCode = d.errCode ∧ e.errPos = d.errPos

theorem Dev.HoldsError.in_error {d e : Dev} (h : d.HoldsError e) : e.fstate = .error := h.1

theorem Dev.HoldsError.trans {d e f : Dev} (hde : d.HoldsError e) (hef : e.HoldsError f) : d.HoldsError f := by
  obtain ⟨-, hcode, hpos⟩ := hde
  obtain ⟨hf, hcode', hpos'⟩ := hef
  exact ⟨hf, hcode'.trans hcode, hpos'.trans hpos⟩

section InError

variable {d : Dev} (hs : d.fstate = .error)

include hs

theorem Dev.endStream_of_error : d.endStream = { d with cmdErr := true } :=
  Dev.endStream_of_closed (.inr (.inr (.inl hs)))

theorem Dev.pushByte_of_error (p : Params) (b : Byte) : d.pushByte p b = { d with cmdErr := true } :=
  Dev.pushByte_of_closed b (.inr (.inr (.inl hs)))

theorem Dev.commitEntry_holdsError (p : Params) (v : Word) : d.HoldsError (d.commitEntry p v) :=
  ⟨(d.commitEntry_fstate p v).trans hs, d.commitEntry_errCode p v, d.commitEntry_errPos p v⟩

theorem Dev.clearTable_holdsError : d.HoldsError d.clearTable :=
  ⟨d.clearTable_fstate.trans hs, d.clearTable_errCode, d.clearTable_errPos⟩

theorem Dev.endStream_holdsError : d.HoldsError d.endStream := by
  rw [Dev.endStream_of_error hs]
  exact ⟨hs, rfl, rfl⟩

/-- A command, given or not, holds the error if it holds it when it runs. -/
theorem Dev.command_holdsError {run : Dev → Dev} (hrun : d.HoldsError (run d)) (given : Bool) :
    d.HoldsError (d.command given run) := by
  cases given with
  | false => exact ⟨hs, rfl, rfl⟩
  | true => exact hrun

/-- CT_CLEAR holds the error, and END finds the block still in ERROR and holds it too. -/
theorem Dev.control_holdsError {v : Word} (hstart : v.getLsbD 0 = false) (habort : v.getLsbD 2 = false) :
    d.HoldsError (d.control v) := by
  rw [d.control_of_no_start_abort hstart habort]
  have hclear := Dev.command_holdsError hs (Dev.clearTable_holdsError hs) (ctrlCtClear v)
  have hs' := hclear.in_error
  exact hclear.trans (Dev.command_holdsError hs' (Dev.endStream_holdsError hs') (ctrlEnd v))

end InError

/-- Of the instructions only a CTRL write with START or ABORT leaves ERROR or changes the error record (R286). -/
theorem exec_holdsError {i : Instr} {s t : State} (hs : s.dev.fstate = .error) (h : exec i s = .next t)
    (hctrl : ∀ v, i = .wrCtrl v → v.getLsbD 0 = false ∧ v.getLsbD 2 = false) : s.dev.HoldsError t.dev := by
  rcases exec_dev_cases h with e | ⟨-, e⟩ | ⟨v, hi, e⟩ | ⟨v, -, e⟩ | ⟨v, -, e⟩ | ⟨v, -, e⟩ | ⟨v, -, e⟩ | ⟨v, -, e⟩ |
    ⟨v, -, e⟩ | ⟨v, -, e⟩ <;> rw [e]
  case inr.inr.inl =>
    obtain ⟨hstart, habort⟩ := hctrl v hi
    exact Dev.control_holdsError hs hstart habort
  case inr.inr.inr.inr.inr.inr.inr.inr.inl => exact Dev.commitEntry_holdsError hs _ v
  case inr.inr.inr.inr.inr.inr.inr.inr.inr =>
    rw [Dev.pushByte_of_error hs]
    exact ⟨hs, rfl, rfl⟩
  all_goals exact ⟨hs, rfl, rfl⟩

/-- Settles O51: no step is enabled in ERROR, a byte and an END are refused there, and every instruction but START and
ABORT holds the error by `exec_holdsError`. -/
theorem errorsAreFinal : Obligations.ErrorsAreFinal := by
  refine fun s hs => ⟨?turn, fun v => ?byte, ?endStream, fun i t => exec_holdsError hs⟩
  case turn => rw [State.engineTurn, Dev.engineTurn_of_ne_run _ _ (by simp [hs])]
  case byte => rw [exec_wrDataIn, Dev.pushByte_of_error hs]
  case endStream => rw [exec_wrCtrl, Dev.control_end, Dev.endStream_of_error hs]

end Sys2Proof.Machine

/-!
PROOFS. Reset (R310, R311): the registers over the block's reset state, and what an access that meets `rst` leaves.
-/

namespace Sys2Proof.Machine

/-! ### The register words over the reset state (R310) -/

/-- In a table of invalid entries every index selects the invalid entry. -/
theorem entryAt_replicate_invalid (n i : Nat) : entryAt (List.replicate n Entry.invalid) i = Entry.invalid := by
  rw [entryAt, List.getD_eq_getElem?_getD, List.getElem?_getD_replicate_default_eq]

/-- OUT is empty after reset, and so not full, since its depth is at least 1 (R5). -/
theorem Dev.reset_outFull {p : Params} (hdepth : 1 ≤ p.outDepth) : (Dev.reset p).outFull p = false :=
  decide_eq_false (Nat.ne_of_lt hdepth)

theorem statusWord_reset {p : Params} (hdepth : 1 ≤ p.outDepth) : statusWord p (Dev.reset p) = 0#32 := by
  rw [statusWord, Dev.reset_outFull hdepth]
  simp [Dev.reset, Dev.outValid, Dev.inReady, FState.code]

/-- No status bit is set after reset. -/
theorem Dev.reset_irq (p : Params) : (Dev.reset p).irq = false :=
  (Dev.irq_eq_false_iff _).mpr (by simp [Dev.reset])

theorem flagsWord_reset (p : Params) : flagsWord (Dev.reset p) = 0#32 := by
  simp [flagsWord, Dev.reset]

theorem ctCountWord_reset (p : Params) : ctCountWord (Dev.reset p) = 0#32 := by
  have hcount : (Dev.reset p).ctCount = 0 := tableCount_replicate_invalid p.ctEntries
  have hlmax : (Dev.reset p).lMaxT = 0 := tableLMax_of_tableCount_eq_zero hcount
  rw [ctCountWord, hcount, hlmax]
  rfl

theorem Dev.reset_entry (p : Params) : (Dev.reset p).entry = Entry.invalid :=
  entryAt_replicate_invalid p.ctEntries 0

/-! ### The reads after reset -/

theorem exec_rdStatus_platformReset {s : State} (hdepth : 1 ≤ s.cfg.outDepth) :
    exec .rdStatus s.platformReset = .next (s.platformReset.answered 0#32) :=
  congrArg (readValue · s.platformReset) (statusWord_reset hdepth)

theorem exec_rdFlags_platformReset (s : State) :
    exec .rdFlags s.platformReset = .next (s.platformReset.answered 0#32) :=
  congrArg (readValue · s.platformReset) (flagsWord_reset s.cfg)

theorem exec_rdCtCount_platformReset (s : State) :
    exec .rdCtCount s.platformReset = .next (s.platformReset.answered 0#32) :=
  congrArg (readValue · s.platformReset) (ctCountWord_reset s.cfg)

theorem exec_rdCtEntry_platformReset (s : State) :
    exec .rdCtEntry s.platformReset = .next (s.platformReset.answered 0#32) :=
  congrArg (fun e => readValue (entryWord e) s.platformReset) (Dev.reset_entry s.cfg)

theorem exec_rdCtRcode_platformReset (s : State) :
    exec .rdCtRcode s.platformReset = .next (s.platformReset.answered 0#32) :=
  congrArg (fun e : Entry => readValue e.code s.platformReset) (Dev.reset_entry s.cfg)

/-- Settles O7: the variables are those of `Dev.reset`. STATUS reads 0 since the empty OUT is not full, and the three
table registers since no entry is valid; each other register shows variables that reset sets to 0. An access that
meets `rst` leaves the block of `State.resetAccess_fields`. -/
theorem resetStateOfEveryVariable : Obligations.ResetStateOfEveryVariable := by
  refine ⟨fun s => ⟨rfl, rfl, Dev.reset_irq s.cfg, fun hdepth => ?reads⟩, fun s a => ?access⟩
  case reads =>
    have hzero := readValue_eq 0#32 s.platformReset
    have hstatus := exec_rdStatus_platformReset hdepth
    have hflags := exec_rdFlags_platformReset s
    have hentry := exec_rdCtEntry_platformReset s
    have hrcode := exec_rdCtRcode_platformReset s
    have hcount := exec_rdCtCount_platformReset s
    simp only [List.forall_mem_cons, List.not_mem_nil, false_imp_iff, implies_true, and_true]
    exact ⟨hzero, hstatus, hflags, hzero, hzero, hzero, hzero, hzero, hzero, hzero, hzero, hzero, hzero, hentry, hrcode,
      hcount, hzero, hzero⟩
  case access =>
    obtain ⟨hdev, hcfg, -, -⟩ := s.resetAccess_fields a
    exact ⟨hdev, hcfg⟩

end Sys2Proof.Machine

/-!
PROOFS. Decoding and encoding (R90 to R94): a well-formed instruction is the one that its own direction, offset and
data select, and a word decodes to the instruction that carries its fields.
-/

namespace Sys2Proof

/-! ### The offset of a well-formed instruction selects its row -/

theorem Offset.word_of_reserved5 : ∀ off : Offset, off.reserved5 = true →
    off.toNat % 4 = 0 ∧ (off.toNat / 4 = 20 ∨ off.toNat / 4 = 21 ∨ off.toNat / 4 = 22 ∨ off.toNat / 4 = 23) := by
  decide

theorem Offset.word_of_reserved6 : ∀ off : Offset, off.reserved6 = true → off.toNat % 4 = 0 ∧ 24 ≤ off.toNat / 4 := by
  decide

theorem Offset.mod_four_of_misaligned : ∀ k off : Offset, off.misaligned k = true → off.toNat % 4 = k.toNat := by
  decide

theorem selectRead_of_reserved5 {off : Offset} (h : off.reserved5 = true) : selectRead off = .rdRsvd505c off := by
  obtain ⟨-, hw | hw | hw | hw⟩ := Offset.word_of_reserved5 off h <;> simp only [selectRead, hw]

theorem selectWrite_of_reserved5 {off : Offset} (h : off.reserved5 = true) (data : Word) :
    selectWrite off data = .wrRsvd505c off data := by
  obtain ⟨-, hw | hw | hw | hw⟩ := Offset.word_of_reserved5 off h <;> simp only [selectWrite, hw]

theorem selectRead_of_reserved6 {off : Offset} (h : off.reserved6 = true) : selectRead off = .rdRsvd607c off := by
  obtain ⟨-, hw⟩ := Offset.word_of_reserved6 off h
  unfold selectRead
  split
  case h_25 => rfl
  all_goals omega

theorem selectWrite_of_reserved6 {off : Offset} (h : off.reserved6 = true) (data : Word) :
    selectWrite off data = .wrRsvd607c off data := by
  obtain ⟨-, hw⟩ := Offset.word_of_reserved6 off h
  unfold selectWrite
  split
  case h_25 => rfl
  all_goals omega

/-- Well-formed data is what the direction carries (R91). -/
theorem Dir.dataOf_of_dataOk {dir : Dir} {data : Word} (h : dir.dataOk data = true) : dir.dataOf data = data := by
  cases dir
  · exact (beq_iff_eq.mp h).symm
  · rfl

/-- A well-formed instruction is the one that its own fields select (R93). -/
theorem select_fields {i : Instr} (h : i.wellFormed = true) : select i.dir i.off i.data = i := by
  cases i
  case rdRsvd505c off =>
    obtain ⟨h0, -⟩ := Offset.word_of_reserved5 off h
    exact (select_of_aligned h0 _ _).trans (selectRead_of_reserved5 h)
  case wrRsvd505c off data =>
    obtain ⟨h0, -⟩ := Offset.word_of_reserved5 off h
    exact (select_of_aligned h0 _ _).trans (selectWrite_of_reserved5 h data)
  case rdRsvd607c off =>
    obtain ⟨h0, -⟩ := Offset.word_of_reserved6 off h
    exact (select_of_aligned h0 _ _).trans (selectRead_of_reserved6 h)
  case wrRsvd607c off data =>
    obtain ⟨h0, -⟩ := Offset.word_of_reserved6 off h
    exact (select_of_aligned h0 _ _).trans (selectWrite_of_reserved6 h data)
  case buserrMisaligned1 | buserrMisaligned2 | buserrMisaligned3 =>
    obtain ⟨hoff, hdata⟩ := Bool.and_eq_true_iff.mp h
    have hk := Offset.mod_four_of_misaligned _ _ hoff
    simp only [Instr.dir, Instr.off, Instr.data, select, hk, Dir.dataOf_of_dataOk hdata]
    rfl
  all_goals simp [select, selectRead, selectWrite, Instr.dir, Instr.off, Instr.data]

/-- Settles O1: the word of an instruction decodes to what the instruction's fields select, and that is the
instruction. -/
theorem encodeThenDecode : Obligations.EncodeThenDecode := by
  intro i h
  rw [encode, decode_mkTWord, select_fields h]

/-- Settles O2: the selected instruction is well formed and has the word's fields, but that a read has no data. -/
theorem decodeThenEncode : Obligations.DecodeThenEncode := fun t => by
  refine ⟨decode_wellFormed t, (encode_decode t).trans ?_⟩
  cases twDir t <;> rfl

/-- Settles O4: nine closed words. -/
theorem writtenWordsDecode : Obligations.WrittenWordsDecode := by
  unfold Obligations.WrittenWordsDecode
  decide

end Sys2Proof

/-!
PROOFS. The invariant of R35, R128 and R150 over the block: one lemma per operation that a step is made of, and from
them the instructions, the engine's turn and the step. The same for the codes that HUFFDEC can set (R281), which need
no invariant.
-/

namespace Sys2Proof.Machine

/-- The invariant over the block alone. -/
structure Dev.Inv (p : Params) (d : Dev) : Prop where
  frame : d.FrameInv p
  range : d.RangeInv p

theorem State.Inv.dev {s : State} (h : s.Inv) : s.dev.Inv s.cfg := ⟨h.frame, h.range⟩

theorem State.inv_iff (s : State) : s.Inv ↔ s.cfg.Legal ∧ s.dev.Inv s.cfg :=
  ⟨fun h => ⟨h.legal, h.dev⟩, fun ⟨hl, hf, hr⟩ => ⟨hl, hf, hr⟩⟩

/-! ### Reset -/

theorem entryOk_invalid (p : Params) : Entry.Ok p Entry.invalid := ⟨nofun, fun _ => rfl⟩

theorem entryOk_replicate_invalid (p : Params) (n : Nat) : ∀ e ∈ List.replicate n Entry.invalid, Entry.Ok p e :=
  fun _ he => List.eq_of_mem_replicate he ▸ entryOk_invalid p

theorem Dev.reset_inv (p : Params) : (Dev.reset p).Inv p where
  frame := by constructor <;> simp [Dev.reset]
  range := by
    have hpos (k : Nat) : 0 < 2 ^ k := Nat.two_pow_pos k
    have hct := entryOk_replicate_invalid p p.ctEntries
    constructor
    case table => exact ⟨List.length_replicate, hct⟩
    all_goals simp [Dev.reset, Params.ctEntries, hpos]

/-! ### The values that the operations store -/

theorem indexField_lt (p : Params) (v : Word) : (indexField p v).toNat < p.ctEntries := by
  rw [indexField_eq, BitVec.toNat_ofNat]
  exact (Nat.mod_le _ _).trans_lt (Nat.mod_lt _ (Nat.two_pow_pos _))

theorem codeField_lt (p : Params) (v : Word) : (codeField p v).toNat < 2 ^ p.lMax := by
  rw [codeField, lowBits_toNat]
  exact Nat.mod_lt _ (Nat.two_pow_pos _)

/-- A commit that the length check accepts stores an entry of R150's form. -/
theorem entryOk_committedEntry {p : Params} (stage : Word) {v : Word} (hlen : ¬ lenRefused p v = true) :
    Entry.Ok p (committedEntry p stage v) := by
  have hlow {w : Nat} (k : Nat) (x : BitVec w) : (lowBits k x).toNat < 2 ^ k := by
    rw [lowBits_toNat]
    exact Nat.mod_lt _ (Nat.two_pow_pos k)
  rw [lenRefused_iff, ← entryLen_toNat] at hlen
  cases hv : v.getLsbD 31 with
  | false =>
    rw [committedEntry_of_not_valid p stage hv]
    exact entryOk_invalid p
  | true =>
    have hrange : 1 ≤ (entryLen v).toNat ∧ (entryLen v).toNat ≤ p.lMax := by
      simp only [hv, true_and] at hlen
      omega
    rw [committedEntry, entryValid, if_pos hv]
    exact ⟨fun _ => ⟨hrange, hlow _ _, hlow _ _⟩, nofun⟩

/-- The codes of R282, which the block raises. -/
def ErrCode.Raised (c : ErrCode) : Prop :=
  c ∈ [ErrCode.truncatedStream, .unknownCode, .emptyCodeTable, .inputOverrun, .frameTooLong]

theorem Dev.rawBits_toNat_le (d : Dev) : d.rawBits.toNat ≤ 8 * d.bytesRx := Nat.mod_le _ _

/-- A command, given or not, has a property if doing nothing has it and running the command has it. -/
theorem Dev.command_induction {P : Dev → Prop} {d : Dev} {run : Dev → Dev} (hnone : P d) (hrun : P (run d))
    (given : Bool) : P (d.command given run) := by
  cases given with
  | false => exact hnone
  | true => exact hrun

/-- The block as END of the CTRL word `v` finds it (R180). -/
def Dev.beforeEnd (d : Dev) (v : Word) : Dev := (d.beforeStart v).command (ctrlStart v) Dev.start

theorem Dev.control_eq (d : Dev) (v : Word) : d.control v = (d.beforeEnd v).command (ctrlEnd v) Dev.endStream := rfl

/-! ### The operations of the host's registers -/

section Host

variable {p : Params} {d : Dev} (h : d.Inv p)

include h

/-- The flags and the interrupt registers are in no condition of the invariant. -/
theorem Dev.Inv.withFlags (werr cerr : Bool) (en stat : BitVec 2) :
    ({ d with ctWerr := werr, cmdErr := cerr, irqEn := en, irqStat := stat } : Dev).Inv p :=
  ⟨{ h.frame with }, { h.range with }⟩

theorem Dev.Inv.withSelection {index : BitVec 12} {stage : Word} (hindex : index.toNat < p.ctEntries)
    (hstage : stage.toNat < 2 ^ p.lMax) : ({ d with ctIndex := index, ctStage := stage } : Dev).Inv p :=
  ⟨{ h.frame with }, { h.range with selection := ⟨hindex, hstage⟩ }⟩

/-- Outside a frame the table may be any of R150's form: only RUN asks for a valid entry. -/
theorem Dev.Inv.withTable {tbl : List Entry} {index : BitVec 12} (ha : d.active = false)
    (hlen : tbl.length = p.ctEntries) (hok : ∀ e ∈ tbl, Entry.Ok p e) (hindex : index.toNat < p.ctEntries) :
    ({ d with ct := tbl, ctIndex := index } : Dev).Inv p where
  frame := { h.frame with }
  range := { h.range with
    table := ⟨hlen, hok⟩
    selection := ⟨hindex, h.range.selection.2⟩
    run_table := fun hs => by
      rw [Dev.active_eq_false_iff] at ha
      simp_all }

theorem Dev.Inv.popOut : d.popOut.Inv p where
  frame := { h.frame with
    out_flushed := fun hs => by simp [h.frame.out_flushed hs]
    capacity := ⟨d.out.tail_sublist.length_le.trans h.frame.capacity.1, h.frame.capacity.2⟩ }
  range := { h.range with
    symbols := fun x hx => h.range.symbols x (List.mem_of_mem_tail hx)
    unopened := fun hs => by simp [h.range.unopened hs] }

/-- A cleared frame in IDLE or HEADER. -/
theorem Dev.Inv.cleared {fs : FState} (hfs : fs = .idle ∨ fs = .header) :
    ({ d.frameClear with fstate := fs } : Dev).Inv p where
  frame := by constructor <;> rcases hfs with rfl | rfl <;> simp
  range := { h.range with
    symbols := nofun
    counted := by rcases hfs with rfl | rfl <;> simp
    unopened := fun _ => rfl
    pad_zero := fun _ => rfl
    counters := by simp
    positions := by simp
    run_table := fun hs => by rcases hfs with rfl | rfl <;> cases hs
    ended_pad := nofun
    pend_certain := nofun
    raised := by simp }

theorem Dev.Inv.commitEntry (v : Word) : (d.commitEntry p v).Inv p := by
  by_cases hrefused : d.active = true ∨ lenRefused p v = true
  · rw [Dev.commitEntry_of_refused hrefused]
    exact h.withFlags true d.cmdErr d.irqEn d.irqStat
  · obtain ⟨ha, hlen⟩ := not_or.mp hrefused
    rw [Bool.not_eq_true] at ha
    obtain ⟨hct, hok⟩ := h.range.table
    rw [Dev.commitEntry_of_accepted ha hlen]
    refine h.withTable ha (List.length_set.trans hct) (fun e he => ?_) ?_
    · rcases List.mem_or_eq_of_mem_set he with he | rfl
      · exact hok e he
      · exact entryOk_committedEntry d.ctStage hlen
    · rw [BitVec.toNat_ofNat]
      exact (Nat.mod_le _ _).trans_lt (Nat.mod_lt _ (Nat.two_pow_pos _))

theorem Dev.Inv.clearTable : d.clearTable.Inv p := by
  rcases d.clearTable_cases with ⟨-, e⟩ | ⟨ha, e⟩ <;> rw [e]
  · exact h.withFlags true d.cmdErr d.irqEn d.irqStat
  · exact h.withTable ha (List.length_replicate.trans h.range.table.1) (entryOk_replicate_invalid p _)
      (Nat.two_pow_pos _)

theorem Dev.Inv.start : d.start.Inv p := by
  rcases d.start_cases with ⟨-, e⟩ | ⟨-, e⟩ <;> rw [e]
  · exact h.withFlags d.ctWerr true d.irqEn d.irqStat
  · exact h.cleared (.inr rfl)

theorem Dev.Inv.abort : d.abort.Inv p := h.cleared (.inl rfl)

/-! ### The error entry -/

/-- In a frame the header byte has been received exactly when a byte is counted. -/
theorem Dev.Inv.padValid_of_active (ha : d.active = true) : d.padValid = true ↔ 1 ≤ d.bytesRx := by
  obtain ⟨hbefore, hafter⟩ := h.range.counted
  rw [h.frame.pad_valid]
  rcases d.active_iff.mp ha with hs | hs | hs
  · simp [hs, hbefore (.inr hs)]
  · simp [hs, hafter (.inl hs)]
  · simp [hs, hafter (.inr (.inl hs))]

/-- The error entry in a frame keeps the invariant, with a code that the block raises and a position in the frame. -/
theorem Dev.Inv.frameError (ha : d.active = true) {code : ErrCode} (hcode : code.Raised) {pos : Word}
    (hpos : pos.toNat ≤ 8 * d.bytesRx) : (d.frameError code pos).Inv p where
  frame := {
    run_buf := nofun
    buf_empty := fun _ => rfl
    pad_valid := by simp [h.padValid_of_active ha]
    pend_drain := by simp
    ended_state := fun _ => .inr (.inr rfl)
    out_flushed := fun _ => rfl
    err_code := by
      simp only [Dev.frameError_errCode, Dev.frameError_fstate, iff_true]
      rintro rfl
      simp [ErrCode.Raised] at hcode
    capacity := by simpa using h.frame.capacity.2.2 }
  range := { h.range with
    symbols := nofun
    counted := by simp
    unopened := fun _ => rfl
    positions := by simpa using hpos
    run_table := nofun
    ended_pad := nofun
    pend_certain := nofun
    raised := by
      simp only [Dev.frameError_errCode]
      refine ⟨?_, ?_, ?_⟩ <;> rintro rfl <;> simp [ErrCode.Raised] at hcode }

/-- After the header byte the candidate lies in the bits received. -/
theorem Dev.Inv.rawPos_toNat_le (hs : d.fstate = .run) : d.rawPos.toNat ≤ 8 * d.bytesRx := by
  have hbytes : 1 ≤ d.bytesRx := h.range.counted.2 (.inl hs)
  have hpos : d.pos ≤ d.rBits := h.range.counters.1
  have hmod : d.rawPos.toNat ≤ 8 + d.pos := Nat.mod_le _ _
  rw [d.rBits_eq] at hpos
  omega

/-! ### END -/

/-- After END the payload holds the padding (R182). -/
theorem Dev.Inv.withEnded (hs : d.fstate = .run) (hpad : d.pad.toNat ≤ d.rBits) :
    ({ d with ended := true } : Dev).Inv p where
  frame := { h.frame with ended_state := fun _ => .inl hs }
  range := { h.range with ended_pad := fun _ _ => hpad }

theorem Dev.Inv.endStream : d.endStream.Inv p := by
  have hactive := d.active_iff
  rcases d.endStream_cases with ⟨hs, e⟩ | ⟨hs, -, e⟩ | ⟨hs, -, hpad, e⟩ | ⟨hs, -, e⟩ | ⟨-, e⟩ <;> rw [e]
  case inl => exact h.frameError (hactive.mpr (.inl hs)) (by simp [ErrCode.Raised]) (Nat.zero_le _)
  case inr.inl => exact h.frameError (hactive.mpr (by tauto)) (by simp [ErrCode.Raised]) d.rawBits_toNat_le
  case inr.inr.inl => exact h.withEnded hs hpad
  case inr.inr.inr.inl =>
    have hpend : d.pend.Raised := by
      rcases h.frame.pend_drain.2 hs with e | e <;> simp [e, ErrCode.Raised]
    exact h.frameError (hactive.mpr (.inr (.inr hs))) hpend h.range.positions.2
  case inr.inr.inr.inr => exact h.withFlags d.ctWerr true d.irqEn d.irqStat

theorem Dev.Inv.beforeStart (v : Word) : (d.beforeStart v).Inv p := by
  have habort : (d.command (ctrlAbort v) Dev.abort).Inv p := Dev.command_induction h h.abort _
  exact Dev.command_induction habort habort.clearTable _

theorem Dev.Inv.beforeEnd (v : Word) : (d.beforeEnd v).Inv p :=
  Dev.command_induction (h.beforeStart v) (h.beforeStart v).start _

theorem Dev.Inv.control (v : Word) : (d.control v).Inv p :=
  Dev.command_induction (h.beforeEnd v) (h.beforeEnd v).endStream _

/-! ### A byte -/

theorem Dev.Inv.errCode_of_ne_error (hs : d.fstate ≠ .error) : d.errCode = .noError :=
  not_not.mp fun hne => hs (h.frame.err_code.mp hne)

theorem Dev.Inv.pend_of_ne_drain (hs : d.fstate ≠ .drain) : d.pend = .noError :=
  not_not.mp fun hne => hs (h.frame.pend_drain.1 hne)

theorem Dev.Inv.ended_of_header (hs : d.fstate = .header) : d.ended = false := by
  by_contra he
  simpa [hs] using h.frame.ended_state (eq_true_of_ne_false he)

/-- No bit has been decoded before the header byte. -/
theorem Dev.Inv.counters_of_header (hs : d.fstate = .header) : d.bytesRx = 0 ∧ d.pos = 0 ∧ d.symCount = 0 := by
  have hbytes := h.range.counted.1 (.inr hs)
  obtain ⟨hpos, hsym⟩ := h.range.counters
  rw [d.rBits_eq] at hpos
  omega

theorem Dev.Inv.takeHeader (hroom : 1 ≤ p.maxFrameBytes) (hs : d.fstate = .header) (b : Byte) :
    (d.takeHeader b).Inv p := by
  have hbuf : d.buf = [] := h.frame.buf_empty (by simp [hs])
  have hout : d.out = [] := h.range.unopened (.inr hs)
  have hended := h.ended_of_header hs
  have hpend := h.pend_of_ne_drain (by simp [hs])
  have herr := h.errCode_of_ne_error (by simp [hs])
  obtain ⟨hbytes, hpos, hsym⟩ := h.counters_of_header hs
  obtain ⟨herrPos, hpendPos⟩ := h.range.positions
  rw [hbytes] at herrPos hpendPos
  rcases Nat.eq_zero_or_pos d.ctCount with hct | hct
  · rw [Dev.takeHeader_of_empty hct]
    exact {
      frame := by constructor <;> simp [hbuf, hout, hended, herr, hroom]
      range := { h.range with
        counted := by simp
        unopened := fun _ => hout
        pad_zero := nofun
        counters := by simp [hpos, hsym]
        positions := ⟨herrPos.trans (Nat.zero_le _), Nat.zero_le _⟩
        run_table := nofun
        ended_pad := nofun
        pend_certain := nofun } }
  · rw [Dev.takeHeader_of_nonempty hct]
    exact {
      frame := by constructor <;> simp [hbuf, hout, hended, hpend, herr, hpos, hroom, Dev.rBits_eq]
      range := { h.range with
        counted := by simp
        unopened := fun _ => hout
        pad_zero := nofun
        counters := by simp [hpos, hsym]
        positions := ⟨herrPos.trans (Nat.zero_le _), hpendPos.trans (Nat.zero_le _)⟩
        run_table := fun _ => hct
        ended_pad := fun _ he => by simp [hended] at he
        pend_certain := nofun } }

theorem Dev.Inv.takePayload (hs : d.fstate = .run) (he : d.ended = false) (hr : d.inReady p = true) (b : Byte) :
    (d.takePayload b).Inv p := by
  obtain ⟨hroom, hlimit⟩ := (Dev.inReady_iff_of_run hs he).mp hr
  obtain ⟨hlen, hpos⟩ := h.frame.run_buf hs
  obtain ⟨hout, -, -⟩ := h.frame.capacity
  have hbytes : 1 ≤ d.bytesRx := h.range.counted.2 (.inl hs)
  obtain ⟨hcount, hsym⟩ := h.range.counters
  obtain ⟨herr, hpend⟩ := h.range.positions
  have hbits : (d.takePayload b).rBits = d.rBits + 8 := by
    rw [Dev.rBits_eq, Dev.rBits_eq, Dev.takePayload_bytesRx]
    omega
  exact {
    frame := { h.frame with
      run_buf := fun _ => by
        rw [hbits]
        simp only [Dev.takePayload_buf, Dev.takePayload_pos, Dev.takePayload_pad, List.length_append, bitsMSB8_length]
        omega
      buf_empty := fun hne => absurd hs hne
      pad_valid := by simp [h.frame.pad_valid, hs]
      capacity := by
        simp only [Dev.takePayload_out, Dev.takePayload_buf, Dev.takePayload_bytesRx, List.length_append,
          bitsMSB8_length]
        omega }
    range := { h.range with
      counted := by simp [hs]
      counters := by
        rw [hbits]
        exact ⟨hcount.trans (Nat.le_add_right _ _), hsym⟩
      positions := by
        simp only [Dev.takePayload_errPos, Dev.takePayload_pendPos, Dev.takePayload_bytesRx]
        omega
      ended_pad := fun _ hended => by
        rw [Dev.takePayload_ended, he] at hended
        cases hended
      pend_certain := fun hdrain => by
        rw [Dev.takePayload_fstate, hs] at hdrain
        cases hdrain } }

/-- A byte in DRAIN below the frame limit is counted and nothing else (R204). -/
theorem Dev.Inv.countByte (hs : d.fstate = .drain) (hlimit : d.bytesRx ≠ p.maxFrameBytes) :
    ({ d with bytesRx := d.bytesRx + 1 } : Dev).Inv p := by
  obtain ⟨hout, hbuf, hbytes⟩ := h.frame.capacity
  obtain ⟨hcount, hsym⟩ := h.range.counters
  obtain ⟨herr, hpend⟩ := h.range.positions
  have hbits : d.rBits ≤ ({ d with bytesRx := d.bytesRx + 1 } : Dev).rBits := by
    rw [Dev.rBits_eq, Dev.rBits_eq]
    dsimp only
    omega
  exact {
    frame := { h.frame with
      run_buf := fun hrun => by simp [hs] at hrun
      pad_valid := by simp [h.frame.pad_valid, hs]
      capacity := ⟨hout, hbuf, by dsimp only; omega⟩ }
    range := { h.range with
      counted := by simp [hs]
      counters := ⟨hcount.trans hbits, hsym⟩
      positions := by dsimp only; omega
      ended_pad := fun hrun => by simp [hs] at hrun
      pend_certain := fun hdrain hcode => (h.range.pend_certain hdrain hcode).trans_le hbits } }

theorem Dev.Inv.pushByte (hroom : 1 ≤ p.maxFrameBytes) (b : Byte) : (d.pushByte p b).Inv p := by
  have hactive := d.active_iff
  rcases d.pushByte_cases p b with ⟨hs, e⟩ | ⟨hs, he, hr, e⟩ | ⟨hs, -, -, e⟩ | ⟨hs, e⟩ | ⟨-, e⟩ <;> rw [e]
  case inl => exact h.takeHeader hroom hs b
  case inr.inl => exact h.takePayload hs he hr b
  case inr.inr.inl =>
    have ha : d.active = true := hactive.mpr (.inr (.inl hs))
    rw [Dev.refusePayload]
    split <;> exact h.frameError ha (by simp [ErrCode.Raised]) d.rawBits_toNat_le
  case inr.inr.inr.inl =>
    rw [Dev.dropByte]
    split
    · exact h.frameError (hactive.mpr (.inr (.inr hs))) (by simp [ErrCode.Raised]) d.rawBits_toNat_le
    case isFalse hlimit => exact h.countByte hs hlimit
  case inr.inr.inr.inr => exact h.withFlags d.ctWerr true d.irqEn d.irqStat

/-! ### The engine -/

/-- A symbol that Match gives has `SYM_W` bits. -/
theorem Dev.Inv.hit_sym_lt {w : Bits} {hit : Hit} (hm : matchTable d.ct w = some hit) :
    hit.sym.toNat < 2 ^ p.symW := by
  obtain ⟨⟨-, -, hv, -⟩, hsym, -⟩ := isMatch_of_matchTable hm
  obtain ⟨-, -, hlt⟩ := (h.range.table.2 _ (entryAt_mem hv)).1 hv
  exact hsym ▸ hlt

theorem Dev.Inv.decodeStep (hs : d.fstate = .run) {hit : Hit} (hm : matchTable d.ct d.window = some hit)
    (hroom : d.out.length ≠ p.outDepth) : (d.decodeStep hit).Inv p := by
  obtain ⟨hone, hwindow⟩ := matchTable_len hm
  have hdec := hwindow.trans d.window_length_le
  rw [Dev.decodable_of_run hs] at hdec
  obtain ⟨hlen, hpos⟩ := h.frame.run_buf hs
  obtain ⟨hout, hbuf, hbytes⟩ := h.frame.capacity
  obtain ⟨hcount, hsym⟩ := h.range.counters
  have hbits : (d.decodeStep hit).rBits = d.rBits := rfl
  exact {
    frame := { h.frame with
      run_buf := fun _ => by
        rw [hbits, Dev.decodeStep_buf, Dev.decodeStep_pos, Dev.decodeStep_pad, List.length_drop]
        omega
      buf_empty := fun hne => absurd hs hne
      out_flushed := by simp [hs]
      capacity := by
        rw [Dev.decodeStep_buf, Dev.decodeStep_out, Dev.decodeStep_bytesRx, List.length_drop, List.length_append,
          List.length_singleton]
        omega }
    range := { h.range with
      symbols := fun x hx => by
        rcases List.mem_append.mp hx with hx | hx
        · exact h.range.symbols x hx
        · exact List.mem_singleton.mp hx ▸ h.hit_sym_lt hm
      unopened := by simp [hs]
      counters := by
        rw [hbits, Dev.decodeStep_pos, Dev.decodeStep_symCount]
        omega } }

theorem Dev.Inv.unmatchStep (hs : d.fstate = .run) (he : d.ended = false) (hlen : d.lMaxT ≤ d.decodable) :
    d.unmatchStep.Inv p := by
  have hpad : d.pad.toNat < d.rBits := by
    have := h.range.one_le_lMaxT hs
    rw [Dev.decodable_of_run hs] at hlen
    omega
  obtain ⟨-, -, hbytes⟩ := h.frame.capacity
  exact {
    frame := {
      run_buf := nofun
      buf_empty := fun _ => rfl
      pad_valid := by simp [h.frame.pad_valid, hs]
      pend_drain := by simp
      ended_state := by simp [he]
      out_flushed := fun _ => rfl
      err_code := by simp [h.errCode_of_ne_error (by simp [hs])]
      capacity := by simp [hbytes] }
    range := { h.range with
      symbols := nofun
      counted := by simp [h.range.counted.2 (.inl hs)]
      unopened := nofun
      positions := ⟨h.range.positions.1, h.rawPos_toNat_le hs⟩
      run_table := nofun
      ended_pad := nofun
      pend_certain := fun _ _ => hpad } }

theorem Dev.Inv.finishStep (hs : d.fstate = .run) : d.finishStep.Inv p := by
  obtain ⟨hout, -, hbytes⟩ := h.frame.capacity
  have hcount := h.range.counted.2 (.inl hs)
  exact {
    frame := {
      run_buf := nofun
      buf_empty := fun _ => rfl
      pad_valid := by simp [h.frame.pad_valid, hs, hcount]
      pend_drain := by simp [h.pend_of_ne_drain (by simp [hs])]
      ended_state := by simp
      out_flushed := by simp
      err_code := by simp [h.errCode_of_ne_error (by simp [hs])]
      capacity := by simp [hout, hbytes] }
    range := { h.range with
      counted := by simp [hcount]
      unopened := by simp
      run_table := nofun
      ended_pad := nofun
      pend_certain := nofun } }

theorem Dev.Inv.engineTurn : (d.engineTurn p).Inv p := by
  rcases d.engineTurn_cases p with e | ⟨hs, ⟨hit, hm, hroom, e⟩ | ⟨-, he, hlen, e⟩ | ⟨-, -, -, e⟩ |
    ⟨-, -, -, e⟩⟩ <;> rw [e]
  · exact h
  · exact h.decodeStep hs hm hroom
  · exact h.unmatchStep hs he hlen
  · exact h.finishStep hs
  · exact h.frameError (d.active_iff.mpr (.inr (.inl hs))) (by simp [ErrCode.Raised]) (h.rawPos_toNat_le hs)

end Host

/-! ### The codes that HUFFDEC can set (R281) -/

/-- The code is of a stage of the block, or none. -/
abbrev ErrCode.OfBlock (c : ErrCode) : Prop :=
  c ≠ .emptyAlphabet ∧ c ≠ .degenerateTree ∧ c ≠ .malformedFrequencyLine

section Codes

variable {d : Dev} (h : d.HardwareCodes)

/-- Of the invariant: nothing is pending outside DRAIN, and there one of the two codes is. -/
theorem Dev.Inv.hardwareCodes {p : Params} (hinv : d.Inv p) : d.HardwareCodes where
  err := hinv.range.raised
  pend := by
    by_cases hs : d.fstate = .drain
    · exact .inr (hinv.frame.pend_drain.2 hs)
    · exact .inl (hinv.pend_of_ne_drain hs)

theorem Dev.hardwareCodes_frameError {code : ErrCode} (hcode : code.OfBlock) (pos : Word) :
    (d.frameError code pos).HardwareCodes := ⟨hcode, .inl rfl⟩

theorem Dev.hardwareCodes_frameClear (fs : FState) : ({ d.frameClear with fstate := fs } : Dev).HardwareCodes :=
  ⟨⟨nofun, nofun, nofun⟩, .inl rfl⟩

include h

theorem Dev.HardwareCodes.of_eq {e : Dev} (herr : e.errCode = d.errCode) (hpend : e.pend = d.pend) :
    e.HardwareCodes := ⟨herr ▸ h.err, hpend ▸ h.pend⟩

/-- What can be pending can be raised. -/
theorem Dev.HardwareCodes.pend_ofBlock : d.pend.OfBlock := by
  rcases h.pend with e | e | e <;> rw [e] <;> decide

theorem Dev.HardwareCodes.clearTable : d.clearTable.HardwareCodes := by
  rcases d.clearTable_cases with ⟨-, e⟩ | ⟨-, e⟩ <;> exact h.of_eq (by rw [e]) (by rw [e])

theorem Dev.HardwareCodes.start : d.start.HardwareCodes := by
  rcases d.start_cases with ⟨-, e⟩ | ⟨-, e⟩ <;> rw [e]
  · exact h.of_eq rfl rfl
  · exact Dev.hardwareCodes_frameClear _

theorem Dev.HardwareCodes.endStream : d.endStream.HardwareCodes := by
  rcases d.endStream_cases with ⟨-, e⟩ | ⟨-, -, e⟩ | ⟨-, -, -, e⟩ | ⟨-, -, e⟩ | ⟨-, e⟩ <;> rw [e]
  case inl | inr.inl => exact Dev.hardwareCodes_frameError (by decide) _
  case inr.inr.inr.inl => exact Dev.hardwareCodes_frameError h.pend_ofBlock _
  all_goals exact h.of_eq rfl rfl

theorem Dev.HardwareCodes.control (v : Word) : (d.control v).HardwareCodes := by
  have habort : (d.command (ctrlAbort v) Dev.abort).HardwareCodes :=
    Dev.command_induction h (Dev.hardwareCodes_frameClear .idle) _
  have hclear : (d.beforeStart v).HardwareCodes := Dev.command_induction habort habort.clearTable _
  have hstart : (d.beforeEnd v).HardwareCodes := Dev.command_induction hclear hclear.start _
  exact Dev.command_induction hstart hstart.endStream _

theorem Dev.HardwareCodes.pushByte (p : Params) (b : Byte) : (d.pushByte p b).HardwareCodes := by
  rcases d.pushByte_cases p b with ⟨-, e⟩ | ⟨-, -, -, e⟩ | ⟨-, -, -, e⟩ | ⟨-, e⟩ | ⟨-, e⟩ <;> rw [e]
  case inl =>
    rw [Dev.takeHeader]
    split
    · exact ⟨h.err, .inr (.inr rfl)⟩
    · exact h.of_eq rfl rfl
  case inr.inr.inl =>
    rw [Dev.refusePayload]
    split <;> exact Dev.hardwareCodes_frameError (by decide) _
  case inr.inr.inr.inl =>
    rw [Dev.dropByte]
    split
    · exact Dev.hardwareCodes_frameError (by decide) _
    · exact h.of_eq rfl rfl
  all_goals exact h.of_eq rfl rfl

theorem Dev.HardwareCodes.engineTurn (p : Params) : (d.engineTurn p).HardwareCodes := by
  rcases d.engineTurn_cases p with e | ⟨-, ⟨hit, -, -, e⟩ | ⟨-, -, -, e⟩ | ⟨-, -, -, e⟩ | ⟨-, -, -, e⟩⟩ <;> rw [e]
  case inr.inr.inl => exact ⟨h.err, .inr (.inl rfl)⟩
  case inr.inr.inr.inr => exact Dev.hardwareCodes_frameError (by decide) _
  all_goals exact h.of_eq rfl rfl

end Codes

theorem Dev.commitEntry_pend (p : Params) (d : Dev) (v : Word) : (d.commitEntry p v).pend = d.pend := by
  simp only [Dev.commitEntry, apply_ite Dev.pend, ite_self]

/-! ### An instruction, and a step -/

theorem exec_inv {i : Instr} {s t : State} (hroom : 1 ≤ s.cfg.maxFrameBytes) (h : s.dev.Inv s.cfg)
    (he : exec i s = .next t) : t.dev.Inv s.cfg := by
  rcases exec_dev_cases he with e | ⟨-, e⟩ | ⟨v, -, e⟩ | ⟨v, -, e⟩ | ⟨v, -, e⟩ | ⟨v, -, e⟩ | ⟨v, -, e⟩ | ⟨v, -, e⟩ |
    ⟨v, -, e⟩ | ⟨v, -, e⟩ <;> rw [e]
  · exact h
  · exact h.popOut
  · exact h.control v
  · exact h.withFlags _ _ s.dev.irqEn s.dev.irqStat
  · exact h.withFlags s.dev.ctWerr s.dev.cmdErr _ s.dev.irqStat
  · exact h.withFlags s.dev.ctWerr s.dev.cmdErr s.dev.irqEn _
  · exact h.withSelection (indexField_lt s.cfg v) h.range.selection.2
  · exact h.withSelection h.range.selection.1 (codeField_lt s.cfg v)
  · exact h.commitEntry v
  · exact h.pushByte hroom (dataByte v)

theorem exec_hardwareCodes {i : Instr} {s t : State} (h : s.dev.HardwareCodes) (he : exec i s = .next t) :
    t.dev.HardwareCodes := by
  rcases exec_dev_cases he with e | ⟨-, e⟩ | ⟨v, -, e⟩ | ⟨v, -, e⟩ | ⟨v, -, e⟩ | ⟨v, -, e⟩ | ⟨v, -, e⟩ | ⟨v, -, e⟩ |
    ⟨v, -, e⟩ | ⟨v, -, e⟩ <;> rw [e]
  case inr.inr.inl => exact h.control v
  case inr.inr.inr.inr.inr.inr.inr.inr.inl =>
    exact h.of_eq (s.dev.commitEntry_errCode s.cfg v) (s.dev.commitEntry_pend s.cfg v)
  case inr.inr.inr.inr.inr.inr.inr.inr.inr => exact h.pushByte s.cfg (dataByte v)
  all_goals exact h.of_eq rfl rfl

/-- What a step does to the block and to the record of a power-down, once: the engine's turn, an access that runs no
instruction, an instruction, a reset, or a power-down. -/
theorem step_dev_cases {s t : State} (h : step s = .next t) :
    t.cfg = s.cfg ∧ t.schedule = s.schedule.tail ∧
    (((s.schedule = [] ∨ ∃ rest, s.schedule = .engine :: rest) ∧ t.dev = s.dev.engineTurn s.cfg ∧ t.lost = s.lost) ∨
    (∃ a rest, s.schedule = .access a :: rest ∧ (arrive s.cfg a = .outside ∨ ∃ dir, arrive s.cfg a = .narrow dir) ∧
      t.dev = s.dev ∧ t.lost = s.lost) ∨
    (∃ a rest w, s.schedule = .access a :: rest ∧ arrive s.cfg a = .word w ∧
      exec (decode w) { s with schedule := rest } = .next t ∧ t.lost = s.lost) ∨
    (((∃ rest, s.schedule = .reset :: rest) ∨ ∃ a rest, s.schedule = .accessInReset a :: rest) ∧
      t.dev = Dev.reset s.cfg ∧ t.lost = false) ∨
    (∃ rest, s.schedule = .powerDown :: rest ∧ t.dev = Dev.lost s.cfg (Config.freeVariable s.freeUses) ∧
      t.lost = true)) := by
  rcases step_cases s with ⟨hs, e⟩ | ⟨a, rest, hs, ⟨ha, e⟩ | ⟨dir, ha, e⟩ | ⟨w, ha, e⟩⟩ | ⟨rest, hs, e⟩ |
    ⟨a, rest, hs, e⟩ | ⟨rest, hs, e⟩
  case inr.inl.inr.inr =>
    obtain ⟨u, hu, hcfg, hsched, -, hlost⟩ := exec_next (decode w) { s with schedule := rest }
    obtain rfl : u = t := by simpa [e, hu] using h
    exact ⟨hcfg, by rw [hsched, hs, List.tail_cons], .inr (.inr (.inl ⟨a, rest, w, hs, ha, hu, hlost⟩))⟩
  all_goals rw [e] at h
  case inl =>
    cases h
    exact ⟨rfl, rfl, .inl ⟨hs, rfl, rfl⟩⟩
  case inr.inl.inl =>
    cases h
    exact ⟨rfl, by rw [hs, List.tail_cons], .inr (.inl ⟨a, rest, hs, .inl ha, rfl, rfl⟩)⟩
  case inr.inl.inr.inl =>
    cases h
    exact ⟨rfl, by rw [hs, List.tail_cons]; rfl, .inr (.inl ⟨a, rest, hs, .inr ⟨dir, ha⟩, rfl, rfl⟩)⟩
  case inr.inr.inl =>
    cases h
    exact ⟨rfl, by rw [hs, List.tail_cons]; rfl, .inr (.inr (.inr (.inl ⟨.inl ⟨rest, hs⟩, rfl, rfl⟩)))⟩
  case inr.inr.inr.inl =>
    cases h
    obtain ⟨hdev, hcfg, hsched, hlost⟩ := State.resetAccess_fields { s with schedule := rest } a
    exact ⟨hcfg, by rw [hsched, hs, List.tail_cons],
      .inr (.inr (.inr (.inl ⟨.inr ⟨a, rest, hs⟩, hdev, hlost⟩)))⟩
  case inr.inr.inr.inr =>
    cases h
    exact ⟨rfl, by rw [hs, List.tail_cons]; rfl, .inr (.inr (.inr (.inr ⟨rest, hs, rfl, rfl⟩)))⟩

/-- Every step but a power-down keeps the invariant. -/
theorem step_inv {s t : State} (h : s.Inv) (hstep : step s = .next t)
    (hpower : ∀ rest, s.schedule ≠ .powerDown :: rest) : t.Inv := by
  obtain ⟨hcfg, -, hcases⟩ := step_dev_cases hstep
  rw [State.inv_iff, hcfg]
  refine ⟨h.legal, ?_⟩
  rcases hcases with ⟨-, e, -⟩ | ⟨a, rest, -, -, e, -⟩ | ⟨a, rest, w, -, -, he, -⟩ | ⟨-, e, -⟩ | ⟨rest, hs, -⟩
  · exact e ▸ h.dev.engineTurn
  · exact e ▸ h.dev
  · obtain ⟨-, -, -, -, -, ⟨hroom, -⟩, -⟩ := h.legal
    exact exec_inv (s := { s with schedule := rest }) hroom h.dev he
  · exact e ▸ Dev.reset_inv s.cfg
  · exact absurd hs (hpower rest)

/-- A reset restores what a power-down has ended. -/
theorem step_sound {s t : State} (h : s.Sound) (hstep : step s = .next t) : t.Sound := by
  obtain ⟨hlegal, hinv⟩ := h
  obtain ⟨hcfg, -, hcases⟩ := step_dev_cases hstep
  refine ⟨hcfg ▸ hlegal, fun hlost => ?_⟩
  rcases hcases with ⟨hs, -, hl⟩ | ⟨a, rest, hs, -, -, hl⟩ | ⟨a, rest, w, hs, -, -, hl⟩ | ⟨-, e, -⟩ | ⟨rest, -, -, hl⟩
  case inr.inr.inr.inl => exact (State.inv_iff t).mpr ⟨hcfg ▸ hlegal, by rw [e, hcfg]; exact Dev.reset_inv s.cfg⟩
  case inr.inr.inr.inr => exact absurd (hl.symm.trans hlost) (by decide)
  all_goals
    have hpower : ∀ rest, s.schedule ≠ .powerDown :: rest := by
      rintro rest' hs'
      simp [hs'] at hs
    exact step_inv (hinv (hl ▸ hlost)) hstep hpower

theorem step_hardwareCodes {s t : State} (h : s.dev.HardwareCodes) (hstep : step s = .next t) :
    t.dev.HardwareCodes := by
  obtain ⟨-, -, ⟨-, e, -⟩ | ⟨a, rest, -, -, e, -⟩ | ⟨a, rest, w, -, -, he, -⟩ | ⟨-, e, -⟩ | ⟨rest, -, e, -⟩⟩ :=
    step_dev_cases hstep
  · exact e ▸ h.engineTurn s.cfg
  · exact e ▸ h
  · exact exec_hardwareCodes (s := { s with schedule := rest }) h he
  · exact e ▸ (Dev.reset_inv s.cfg).hardwareCodes
  · exact e ▸ (Dev.lost_typed s.cfg _).codes

/-- Settles O46: `step_inv`, `step_sound` and `step_hardwareCodes`. -/
theorem stepKeepsTheInvariant : Obligations.StepKeepsTheInvariant :=
  ⟨fun _ _ => step_inv, fun _ _ => step_sound, fun _ _ => step_hardwareCodes⟩

/-- Settles O45: the reset block of any parameters meets the conditions, and the parameters of R5's ranges and the
defaults are legal. -/
theorem resetMeetsTheInvariant : Obligations.ResetMeetsTheInvariant := by
  have hreset {p : Params} (hp : p.Legal) : (State.resetWith p).Inv := (State.inv_iff _).mpr ⟨hp, Dev.reset_inv p⟩
  exact ⟨fun _ => hreset, hreset (by decide), fun p => (Dev.reset_inv p).hardwareCodes, fun _ h => h.dev.hardwareCodes⟩

/-- Settles O55: `step_cases` gives a next state in every case, and `step_dev_cases` says what it keeps. -/
theorem everyStepCompletes : Obligations.EveryStepCompletes := by
  intro s
  obtain ⟨t, ht⟩ : ∃ t, step s = .next t := by
    rcases step_cases s with ⟨-, e⟩ | ⟨a, rest, -, ⟨-, e⟩ | ⟨dir, -, e⟩ | ⟨w, -, e⟩⟩ | ⟨rest, -, e⟩ | ⟨a, rest, -, e⟩ |
      ⟨rest, -, e⟩
    case inr.inl.inr.inr =>
      obtain ⟨u, hu, -⟩ := exec_next (decode w) { s with schedule := rest }
      exact ⟨u, e.trans hu⟩
    all_goals exact ⟨_, e⟩
  obtain ⟨hcfg, hsched, -⟩ := step_dev_cases ht
  exact ⟨t, ht, hcfg, hsched⟩

end Sys2Proof.Machine

/-!
PROOFS. The loop of R124 on a sequence of two parts: what decodes whole is decoded first, and the rest from there on.
From it the one-symbol table (R129) and the round trip of the reference encoder (R130); and the parallel form of Match
(R231).
-/

namespace Sys2Proof.Machine

/-! ### The loop, whatever its fuel and its start -/

/-- `r`, decoded after `syms` from `n` bits further on. -/
def Decoded.after (r : Decoded) (syms : List Symbol) (n : Nat) : Decoded :=
  ⟨syms ++ r.syms, r.failAt.map (n + ·)⟩

@[simp] theorem Decoded.after_nil (r : Decoded) : r.after [] 0 = r := by
  obtain ⟨syms, failAt⟩ := r
  cases failAt <;> simp [after]

theorem Decoded.after_after (r : Decoded) (xs ys : List Symbol) (m n : Nat) :
    (r.after ys n).after xs m = r.after (xs ++ ys) (m + n) := by
  obtain ⟨syms, failAt⟩ := r
  cases failAt <;> simp [after, Nat.add_assoc]

/-- The start is only added to the position of a failure. -/
theorem decodeLoop_eq_after (tbl : List Entry) (n : Nat) (s : Bits) (pos : Nat) :
    decodeLoop tbl n s pos = (decodeLoop tbl n s 0).after [] pos := by
  induction n generalizing s pos with
  | zero => cases s <;> rfl
  | succ n ih =>
    by_cases hs : s = []
    · simp [hs, Decoded.after]
    cases hm : matchTable tbl s with
    | none => simp [decodeLoop_of_none _ _ hs hm, Decoded.after]
    | some h =>
      rw [decodeLoop_of_some _ _ hm, decodeLoop_of_some _ _ hm, ih _ (pos + h.len), ih _ (0 + h.len)]
      simp [Decoded.after, Function.comp_def, Nat.add_assoc]

/-- Fuel beyond the length of the sequence changes nothing. -/
theorem decodeLoop_fuel {tbl : List Entry} {s : Bits} {n m : Nat} (hn : s.length ≤ n) (hm : s.length ≤ m)
    (pos : Nat) : decodeLoop tbl n s pos = decodeLoop tbl m s pos := by
  induction n generalizing s m pos with
  | zero =>
    obtain rfl := List.length_eq_zero_iff.mp (Nat.le_zero.mp hn)
    rw [decodeLoop_nil, decodeLoop_nil]
  | succ n ih =>
    by_cases hs : s = []
    · rw [hs, decodeLoop_nil, decodeLoop_nil]
    cases hmatch : matchTable tbl s with
    | none => rw [decodeLoop_of_none _ _ hs hmatch, decodeLoop_of_none _ _ hs hmatch]
    | some h =>
      obtain ⟨h1, hle⟩ := matchTable_len hmatch
      obtain ⟨k, rfl⟩ : ∃ k, m = k + 1 := ⟨m - 1, by omega⟩
      have hdrop : (s.drop h.len).length ≤ n ∧ (s.drop h.len).length ≤ k := by
        rw [List.length_drop]
        omega
      rw [decodeLoop_of_some _ _ hmatch, decodeLoop_of_some _ _ hmatch, ih hdrop.1 hdrop.2]

/-! ### DecodeM by its first code, and on a sequence of two parts -/

section DecodeAll

variable {tbl : List Entry} {s : Bits}

@[simp] theorem decodeAll_nil (tbl : List Entry) : decodeAll [] tbl = ⟨[], none⟩ := rfl

theorem decodeAll_of_none (hs : s ≠ []) (hm : matchTable tbl s = none) : decodeAll s tbl = ⟨[], some 0⟩ :=
  decodeLoop_of_none _ _ hs hm

theorem decodeAll_of_some {h : Hit} (hm : matchTable tbl s = some h) :
    decodeAll s tbl = (decodeAll (s.drop h.len) tbl).after [h.sym] h.len := by
  obtain ⟨h1, hle⟩ := matchTable_len hm
  have hdrop : (s.drop h.len).length ≤ s.length - 1 := by
    rw [List.length_drop]
    omega
  rw [decodeAll, decodeAll, decodeLoop_fuel le_rfl (m := s.length - 1 + 1) (by omega), decodeLoop_of_some _ _ hm,
    decodeLoop_fuel hdrop le_rfl, decodeLoop_eq_after]
  simp [Decoded.after]

/-- What decodes whole is decoded first, whatever follows: Match does not look past the code it finds (R127). -/
theorem decodeAll_append {syms : List Symbol} (hs : decodeAll s tbl = ⟨syms, none⟩) (x : Bits) :
    decodeAll (s ++ x) tbl = (decodeAll x tbl).after syms s.length := by
  induction hn : s.length using Nat.strong_induction_on generalizing s syms with
  | _ n ih =>
    by_cases h0 : s = []
    · subst h0 hn
      obtain rfl : [] = syms := congrArg Decoded.syms hs
      simp
    cases hm : matchTable tbl s with
    | none =>
      rw [decodeAll_of_none h0 hm] at hs
      cases hs
    | some h =>
      obtain ⟨h1, hle⟩ := matchTable_len hm
      have hlen : (s.drop h.len).length = n - h.len := by rw [List.length_drop, hn]
      rw [decodeAll_of_some hm] at hs
      obtain ⟨hsyms, hfail⟩ := Decoded.mk.inj hs
      have hrest : decodeAll (s.drop h.len) tbl = ⟨(decodeAll (s.drop h.len) tbl).syms, none⟩ := by
        rw [← Option.map_eq_none_iff.mp hfail]
      rw [decodeAll_of_some (matchTable_append_of_some hm x), List.drop_append_of_le_length hle,
        ih (n - h.len) (by omega) hrest hlen, Decoded.after_after, ← hsyms]
      congr 1
      omega

end DecodeAll

/-! ### The one-symbol table (R129) -/

/-- A table with an entry counts it. -/
theorem tableCount_ne_zero {tbl : List Entry} {i : Nat} (hv : (entryAt tbl i).valid = true) : tableCount tbl ≠ 0 :=
  fun h0 => List.countP_eq_zero.mp h0 _ (entryAt_mem hv) hv

section SingleSymbol

variable {tbl : List Entry} {i : Nat} {sym : Symbol} (he : entryAt tbl i = ⟨true, 1#6, 0#32, sym⟩)
  (honly : ∀ j, (entryAt tbl j).valid = true → j = i)

include he honly

theorem prefixCode_of_single : PrefixCode tbl := by
  intro j k hj hk
  obtain rfl := honly j hj
  obtain rfl := honly k hk
  rw [he]
  exact ⟨List.cons_ne_nil _ _, fun _ => rfl⟩

omit honly in
theorem codeBits_single : (entryAt tbl i).codeBits = [false] := by
  simp [he, Entry.codeBits, toBits]

theorem matchTable_single_false (s : Bits) : matchTable tbl (false :: s) = some ⟨1, sym, i⟩ := by
  have hpre : (entryAt tbl i).codeBits <+: false :: s := codeBits_single he ▸ List.prefix_append [false] s
  have hm := (prefixCode_of_single he honly).matchTable_eq (by rw [he]) hpre
  rwa [he] at hm

theorem matchTable_single_true (s : Bits) : matchTable tbl (true :: s) = none := by
  refine matchTable_eq_none_iff.mpr fun l j hit => ?_
  obtain ⟨hv, -, -, hpre⟩ := hits_iff_prefix.mp hit
  obtain rfl := honly j hv
  rw [codeBits_single he, List.cons_prefix_cons] at hpre
  exact Bool.false_ne_true hpre.1

theorem decodeAll_replicate_false (k : Nat) :
    decodeAll (List.replicate k false) tbl = ⟨List.replicate k sym, none⟩ := by
  induction k with
  | zero => rfl
  | succ k ih =>
    rw [List.replicate_succ, decodeAll_of_some (matchTable_single_false he honly _), List.drop_one, List.tail_cons, ih]
    rfl

end SingleSymbol

/-- Settles O41: the zeros decode whole, and at the first `1`, which no code begins with, the decoder fails. -/
theorem singleSymbolTableDecodes : Obligations.SingleSymbolTableDecodes := by
  intro tbl i sym he honly k rest
  have h0 : tableCount tbl ≠ 0 := tableCount_ne_zero (i := i) (by rw [he])
  have hzeros := decodeAll_replicate_false he honly k
  have hone := decodeAll_of_none (List.cons_ne_nil true rest) (matchTable_single_true he honly rest)
  rw [decodeM_of_nonempty h0, decodeM_of_nonempty h0, decodeAll_append hzeros, hone, hzeros]
  simp [Decoded.resultAfter, Decoded.after]

/-! ### The round trip of the reference encoder (R130) -/

theorem exists_entryAt_of_mem {tbl : List Entry} {e : Entry} (he : e ∈ tbl) : ∃ i, entryAt tbl i = e := by
  obtain ⟨i, hi, rfl⟩ := List.getElem_of_mem he
  exact ⟨i, entryAt_of_lt hi⟩

/-- The codes of the symbols decode to the symbols. -/
theorem decodeAll_symbolBits {tbl : List Entry} (hpc : PrefixCode tbl) {syms : List Symbol} {bits : Bits}
    (h : symbolBits tbl syms = some bits) : decodeAll bits tbl = ⟨syms, none⟩ := by
  induction syms generalizing bits with
  | nil =>
    cases h
    rfl
  | cons sym syms ih =>
    rw [symbolBits] at h
    cases hfind : tbl.find? (fun e => e.valid && e.sym == sym) with
    | none => simp [hfind] at h
    | some e =>
      simp only [hfind] at h
      obtain ⟨rest, hrest, rfl⟩ := Option.map_eq_some_iff.mp h
      obtain ⟨i, hi⟩ := exists_entryAt_of_mem (List.mem_of_find?_eq_some hfind)
      have hcond := List.find?_some hfind
      rw [Bool.and_eq_true, beq_iff_eq] at hcond
      obtain ⟨hv, hsym⟩ := hcond
      subst hi
      rw [decodeAll_of_some (hpc.matchTable_eq hv (List.prefix_append _ rest))]
      simp only [hsym]
      rw [← codeBits_length, List.drop_left, ih hrest]
      rfl

theorem toBits_congr {v w n : Nat} (h : ∀ i < n, v.testBit i = w.testBit i) : toBits v n = toBits w n := by
  induction n with
  | zero => rfl
  | succ n ih => rw [toBits, toBits, h n (Nat.lt_succ_self n), ih fun i hi => h i (Nat.lt_succ_of_lt hi)]

theorem foldl_valueMSB (s : Bits) (acc : Nat) :
    s.foldl (fun v b => 2 * v + b.toNat) acc = 2 ^ s.length * acc + valueMSB s := by
  induction s generalizing acc with
  | nil => simp [valueMSB]
  | cons b s ih =>
    rw [valueMSB, List.foldl_cons, List.foldl_cons, ih, ih, List.length_cons]
    ring

theorem valueMSB_cons (b : Bool) (s : Bits) : valueMSB (b :: s) = 2 ^ s.length * b.toNat + valueMSB s := by
  rw [valueMSB, List.foldl_cons, foldl_valueMSB, Nat.mul_zero, Nat.zero_add]

theorem valueMSB_lt (s : Bits) : valueMSB s < 2 ^ s.length := by
  induction s with
  | nil => exact Nat.one_pos
  | cons b s ih =>
    rw [valueMSB_cons, List.length_cons, Nat.pow_succ]
    cases b <;> simp <;> omega

/-- `toBits` undoes `valueMSB` (R8). -/
@[simp] theorem toBits_valueMSB (s : Bits) : toBits (valueMSB s) s.length = s := by
  induction s with
  | nil => rfl
  | cons b s ih =>
    have hbit := Nat.testBit_two_pow_mul_add b.toNat (valueMSB_lt s)
    rw [valueMSB_cons, List.length_cons, toBits, hbit, toBits_congr (w := valueMSB s), ih]
    · cases b <;> simp
    · intro i hi
      rw [hbit, if_pos hi]

/-- Packing keeps the bits (R130). -/
theorem bitsOfBytes_pack8 {n : Nat} {s : Bits} (hs : s.length = 8 * n) : bitsOfBytes (pack8 n s) = s := by
  induction n generalizing s with
  | zero => exact (List.length_eq_zero_iff.mp hs).symm
  | succ n ih =>
    have h8 : (s.take 8).length = 8 := by
      rw [List.length_take]
      omega
    have hbyte : bitsMSB8 (BitVec.ofNat 8 (valueMSB (s.take 8))) = s.take 8 := by
      have hlt := valueMSB_lt (s.take 8)
      rw [h8] at hlt
      have hbits := toBits_valueMSB (s.take 8)
      rw [h8] at hbits
      rw [bitsMSB8, BitVec.toNat_ofNat, Nat.mod_eq_of_lt hlt, hbits]
    rw [pack8, bitsOfBytes_cons, hbyte, ih (by rw [List.length_drop]; omega), List.take_append_drop]

@[simp] theorem pack8_length (n : Nat) (s : Bits) : (pack8 n s).length = n := by
  induction n generalizing s with
  | zero => rfl
  | succ n ih => rw [pack8, List.length_cons, ih]

/-- Padding removal undoes the encoder's padding. -/
theorem removePadding_encodeFrame {tbl : List Entry} {syms : List Symbol} {bytes : List Byte}
    (h : encodeFrame syms tbl = some bytes) :
    ∃ bits, symbolBits tbl syms = some bits ∧ removePadding bytes = .ok bits := by
  obtain ⟨bits, hbits, rfl⟩ := Option.map_eq_some_iff.mp h
  refine ⟨bits, hbits, ?_⟩
  dsimp only
  generalize hpad : (8 - bits.length % 8) % 8 = padding
  have hlt : padding < 8 := by omega
  have hn : 8 * ((bits.length + padding) / 8) = bits.length + padding := by omega
  have htoNat : (BitVec.ofNat 8 padding).toNat = padding := by
    rw [BitVec.toNat_ofNat, Nat.mod_eq_of_lt (by omega)]
  rw [removePadding_cons, pack8_length, htoNat, hn, if_neg (by omega), Nat.add_sub_cancel,
    bitsOfBytes_pack8 (by rw [List.length_append, List.length_replicate, hn]), List.take_left]

/-- Settles O42: padding removal gives back the codes of the symbols, and they decode to the symbols. -/
theorem encodedFramesDecompress : Obligations.EncodedFramesDecompress := by
  intro tbl syms bytes hpc hcount h
  obtain ⟨bits, hbits, hpad⟩ := removePadding_encodeFrame h
  have h0 := Nat.one_le_iff_ne_zero.mp hcount
  rw [decompress_of_nonempty hpad h0, decodeM_of_nonempty h0, decodeAll_symbolBits hpc hbits]
  rfl

/-! ### The parallel form of Match (R231) -/

/-- The same hit, one index further on. -/
def Hit.next (h : Hit) : Hit := { h with index := h.index + 1 }

section Select

variable {w : Bits} {e : Entry} {tbl : List Entry}

theorem entryHit_eq_some_iff {i : Nat} {h : Hit} :
    entryHit w e i = some h ↔ (1 ≤ e.len.toNat ∧ e.len.toNat ≤ w.length ∧ e.valid = true ∧
      e.codeBits = w.take e.len.toNat) ∧ h = ⟨e.len.toNat, e.sym, i⟩ := by
  simp only [entryHit, Option.ite_none_right_eq_some, Bool.and_eq_true, decide_eq_true_eq, beq_iff_eq,
    Option.some.injEq, eq_comm (b := h)]
  tauto

theorem hits_cons_zero {l : Nat} : Hits (e :: tbl) w l 0 ↔ entryHit w e 0 = some ⟨l, e.sym, 0⟩ := by
  rw [entryHit_eq_some_iff]
  constructor
  · rintro ⟨h1, hw, hv, rfl, hc⟩
    exact ⟨⟨h1, hw, hv, hc⟩, rfl⟩
  · rintro ⟨⟨h1, hw, hv, hc⟩, heq⟩
    obtain ⟨rfl, -⟩ := Hit.mk.inj heq
    exact ⟨h1, hw, hv, rfl, hc⟩

/-- The first entry's hit is Match's when no hit of the rest is shorter: it has the least index. -/
theorem isMatch_of_entryHit {a : Hit} (ha : entryHit w e 0 = some a) (hle : ∀ l i, Hits tbl w l i → a.len ≤ l) :
    a.IsMatch (e :: tbl) w := by
  obtain ⟨-, rfl⟩ := entryHit_eq_some_iff.mp ha
  refine ⟨hits_cons_zero.mpr ha, rfl, fun l i hit => ?_, fun i _ => Nat.zero_le i⟩
  cases i with
  | zero =>
    obtain ⟨-, -, -, hl, -⟩ := hit
    exact hl.le
  | succ i => exact hle l i hit

/-- The rest's hit is Match's when it is shorter than any hit of the first entry. -/
theorem Hit.IsMatch.next {b : Hit} (hb : b.IsMatch tbl w) (hlt : ∀ l, Hits (e :: tbl) w l 0 → b.len < l) :
    b.next.IsMatch (e :: tbl) w := by
  obtain ⟨hhit, hsym, hshort, hleast⟩ := hb
  refine ⟨hhit, hsym, fun l i hit => ?_, fun i hit => ?_⟩ <;> cases i
  · exact (hlt l hit).le
  · exact hshort l _ hit
  · exact absurd (hlt _ hit) (lt_irrefl b.len)
  · exact Nat.succ_le_succ (hleast _ hit)

/-- Match on a longer table: the first entry's hit, unless the rest has a shorter one. -/
theorem matchTable_cons :
    matchTable (e :: tbl) w = shorterHit (entryHit w e 0) ((matchTable tbl w).map Hit.next) := by
  have hhead {l : Nat} (hit : Hits (e :: tbl) w l 0) : entryHit w e 0 = some ⟨l, e.sym, 0⟩ := hits_cons_zero.mp hit
  cases ha : entryHit w e 0 with
  | none =>
    have hno (l : Nat) : ¬ Hits (e :: tbl) w l 0 := fun hit => nomatch ha.symm.trans (hhead hit)
    cases hb : matchTable tbl w with
    | none =>
      refine matchTable_eq_none_iff.mpr fun l i hit => ?_
      cases i with
      | zero => exact hno l hit
      | succ i => exact matchTable_eq_none_iff.mp hb l i hit
    | some b => exact matchTable_eq_some_iff.mpr ((isMatch_of_matchTable hb).next fun l hit => absurd hit (hno l))
  | some a =>
    cases hb : matchTable tbl w with
    | none =>
      exact matchTable_eq_some_iff.mpr
        (isMatch_of_entryHit ha fun l i hit => absurd hit (matchTable_eq_none_iff.mp hb l i))
    | some b =>
      have hmatch := isMatch_of_matchTable hb
      have ⟨_, _, hshort, _⟩ := hmatch
      have hlen {l : Nat} (hit : Hits (e :: tbl) w l 0) : a.len = l := by
        rw [hhead hit] at ha
        cases ha
        rfl
      simp only [Option.map_some, shorterHit, Hit.next]
      split
      case isTrue hlt => exact matchTable_eq_some_iff.mpr (hmatch.next fun l hit => hlen hit ▸ hlt)
      case isFalse hle =>
        exact matchTable_eq_some_iff.mpr
          (isMatch_of_entryHit ha fun l i hit => (not_lt.mp hle).trans (hshort l i hit))

theorem entryHit_succ (i : Nat) : entryHit w e (i + 1) = (entryHit w e i).map Hit.next := by
  rw [entryHit, entryHit]
  split <;> rfl

theorem shorterHit_map_next (a b : Option Hit) :
    shorterHit (a.map Hit.next) (b.map Hit.next) = (shorterHit a b).map Hit.next := by
  cases a <;> cases b <;> simp only [shorterHit, Option.map_none, Option.map_some, Hit.next]
  split <;> rfl

theorem selectHit_succ (i : Nat) : selectHit w tbl (i + 1) = (selectHit w tbl i).map Hit.next := by
  induction tbl generalizing i with
  | nil => rfl
  | cons e tbl ih => rw [selectHit, selectHit, ih, entryHit_succ, shorterHit_map_next]

end Select

/-- Settles O44: by induction over the table, whose first entry both forms compare with the rest. -/
theorem parallelSelectIsMatch : Obligations.ParallelSelectIsMatch := by
  intro tbl w
  induction tbl with
  | nil => exact (matchTable_eq_none_iff.mpr fun l i hit => by simpa [entryAt, Entry.invalid] using hit.2.2.1).symm
  | cons e tbl ih => rw [selectHit, selectHit_succ, ih, matchTable_cons]

end Sys2Proof.Machine

/-!
PROOFS. What the record and the block say of a frame (R207, R230): the frame's result from what has been decoded of it,
the relation state by state, and that every operation of a step keeps it.
-/

namespace Sys2Proof.Machine

/-- Match does not look past the code it finds. -/
theorem matchTable_take {tbl : List Entry} {w : Bits} {h : Hit} (hm : matchTable tbl w = some h) :
    matchTable tbl (w.take h.len) = some h := by
  obtain ⟨hhit, hsym, hshort, hleast⟩ := isMatch_of_matchTable hm
  obtain ⟨-, hlen⟩ := matchTable_len hm
  have hwhole {l i : Nat} (hit : Hits tbl (w.take h.len) l i) : Hits tbl w l i := by
    have := hit.append (w.drop h.len)
    rwa [List.take_append_drop] at this
  rw [← List.take_append_drop h.len w] at hhit
  exact matchTable_eq_some_iff.mpr ⟨hhit.of_append (by rw [List.length_take]; omega), hsym,
    fun l i hit => hshort l i (hwhole hit), fun i hit => hleast i (hwhole hit)⟩

/-- The code that Match finds decodes to its symbol. -/
theorem decodeAll_take_of_some {tbl : List Entry} {w : Bits} {h : Hit} (hm : matchTable tbl w = some h) :
    decodeAll (w.take h.len) tbl = ⟨[h.sym], none⟩ := by
  have hnil : (w.take h.len).drop h.len = [] := List.drop_eq_nil_of_le (List.length_take_le _ _)
  rw [decodeAll_of_some (matchTable_take hm), hnil]
  rfl

/-! ### The result of a frame from what has been decoded of it (R125) -/

/-- The payload bits of the frame `b :: rest`, without the padding that `b` declares, from position `pos` on. -/
def undecoded (b : Byte) (rest : List Byte) (pos : Nat) : Bits :=
  ((bitsOfBytes rest).drop pos).take (8 * rest.length - b.toNat - pos)

theorem undecoded_length (b : Byte) (rest : List Byte) (pos : Nat) :
    (undecoded b rest pos).length = 8 * rest.length - b.toNat - pos := by
  rw [undecoded, List.length_take, List.length_drop, bitsOfBytes_length]
  omega

/-- Bytes that follow add bits after the undecoded ones and change none of them. -/
theorem undecoded_prefix (b : Byte) (rest more : List Byte) (pos : Nat) :
    undecoded b rest pos <+: undecoded b (rest ++ more) pos := by
  by_cases hpos : pos ≤ 8 * rest.length
  · have htake : undecoded b rest pos =
        ((bitsOfBytes (rest ++ more)).drop pos).take (8 * rest.length - b.toNat - pos) := by
      rw [undecoded, bitsOfBytes_append, List.drop_append_of_le_length (by rwa [bitsOfBytes_length]),
        List.take_append_of_le_length (by rw [List.length_drop, bitsOfBytes_length]; omega)]
    rw [htake, undecoded, List.length_append]
    exact List.take_prefix_take_left (by omega)
  · have hnil : undecoded b rest pos = [] := by
      rw [← List.length_eq_zero_iff, undecoded_length]
      omega
    rw [hnil]
    exact List.nil_prefix

section Frame

variable {tbl : List Entry} {b : Byte} {rest : List Byte} {pos : Nat} {syms : List Symbol}

theorem decompress_of_truncated (hpad : 8 * rest.length < b.toNat) :
    decompress (b :: rest) tbl = .err .truncatedStream (8 * (b :: rest).length) :=
  decompress_of_removePadding_err ((removePadding_cons b rest).trans (if_pos hpad))

variable (hpad : b.toNat ≤ 8 * rest.length)

include hpad

theorem removePadding_of_le :
    removePadding (b :: rest) = .ok ((bitsOfBytes rest).take (8 * rest.length - b.toNat)) :=
  (removePadding_cons b rest).trans (if_neg (not_lt.mpr hpad))

theorem decompress_of_emptyTable (h0 : tableCount tbl = 0) : decompress (b :: rest) tbl = .err .emptyCodeTable 0 :=
  decompress_of_empty (removePadding_of_le hpad) h0

variable (hpos : pos ≤ 8 * rest.length - b.toNat)
  (hdec : decodeAll ((bitsOfBytes rest).take pos) tbl = ⟨syms, none⟩)

include hpos hdec

omit hpad in
/-- The payload decodes from where it has been decoded to. -/
theorem decodeAll_payload :
    decodeAll ((bitsOfBytes rest).take (8 * rest.length - b.toNat)) tbl =
      (decodeAll (undecoded b rest pos) tbl).after syms pos := by
  have hsplit : (bitsOfBytes rest).take (8 * rest.length - b.toNat) =
      (bitsOfBytes rest).take pos ++ undecoded b rest pos := by
    rw [undecoded, ← List.take_add, Nat.add_sub_cancel' hpos]
  have hlen : ((bitsOfBytes rest).take pos).length = pos := by
    rw [List.length_take, bitsOfBytes_length]
    omega
  rw [hsplit, decodeAll_append hdec, hlen]

theorem frameSymbols_of_decoded :
    frameSymbols (b :: rest) tbl = syms ++ (decodeAll (undecoded b rest pos) tbl).syms := by
  simp only [frameSymbols, removePadding_of_le hpad, decodeAll_payload hpos hdec, Decoded.after]

variable (h0 : tableCount tbl ≠ 0)

include h0

/-- A frame of which no bit is left has decoded. -/
theorem decompress_of_decoded (hnil : undecoded b rest pos = []) : decompress (b :: rest) tbl = .ok syms := by
  rw [decompress_of_nonempty (removePadding_of_le hpad) h0, decodeM_of_nonempty h0, decodeAll_payload hpos hdec, hnil]
  simp [Decoded.after, Decoded.resultAfter]

/-- A frame whose bits left match no code fails there. -/
theorem decompress_of_unmatched (hne : undecoded b rest pos ≠ []) (hm : matchTable tbl (undecoded b rest pos) = none) :
    decompress (b :: rest) tbl = .err .unknownCode (8 + pos) := by
  rw [decompress_of_nonempty (removePadding_of_le hpad) h0, decodeM_of_nonempty h0, decodeAll_payload hpos hdec,
    decodeAll_of_none hne hm]
  simp [Decoded.after, Decoded.resultAfter]

end Frame

/-! ### The relation, state by state -/

/-- The relation in RUN: the symbols so far are the decoding of the first POS payload bits. -/
structure Observer.InRun (o : Observer) (d : Dev) : Prop where
  table : d.ct = o.table
  count : o.bytes.length = d.bytesRx
  symbols : (o.popped ++ d.out).length = d.symCount
  stream : ∃ rest, o.bytes = d.pad :: rest ∧ d.buf = (bitsOfBytes rest).drop d.pos ∧
    decodeAll ((bitsOfBytes rest).take d.pos) o.table = ⟨o.popped ++ d.out, none⟩

/-- The relation in DRAIN: the pending error is the frame's, whatever follows. -/
structure Observer.InDrain (o : Observer) (d : Dev) : Prop where
  table : d.ct = o.table
  count : o.bytes.length = d.bytesRx
  header : o.bytes.head? = some d.pad
  empty : d.pend = .emptyCodeTable → tableCount o.table = 0 ∧ o.popped = [] ∧ d.pendPos = 0#32
  unknown : d.pend = .unknownCode → ∀ more,
    decompress (o.bytes ++ more) o.table = .err .unknownCode d.pendPos.toNat ∧
    o.popped <+: frameSymbols (o.bytes ++ more) o.table

/-- The relation in DONE: the symbols are the frame's, and the counters are those of R230. -/
structure Observer.InDone (o : Observer) (d : Dev) : Prop where
  result : decompress o.bytes o.table = .ok (o.popped ++ d.out)
  symbols : (o.popped ++ d.out).length = d.symCount
  count : o.bytes.length = d.bytesRx
  header : o.bytes.head? = some d.pad
  position : d.pos = 8 * (o.bytes.length - 1) - d.pad.toNat

/-- The relation in ERROR: the decoder's errors are those of Decompress. -/
structure Observer.InError (o : Observer) (d : Dev) : Prop where
  count : o.bytes.length = d.bytesRx
  popped : o.popped <+: frameSymbols o.bytes o.table
  result : d.errCode.ofDecoder = true → decompress o.bytes o.table = .err d.errCode d.errPos.toNat

section Meaning

variable {o : Observer} {d : Dev}

theorem Observer.meaning_of_idle (hs : d.fstate = .idle) : o.Meaning d := by simp only [Meaning, hs]

theorem Observer.meaning_header_iff (hs : d.fstate = .header) : o.Meaning d ↔ o = ⟨d.ct, [], []⟩ := by
  simp only [Meaning, hs]

theorem Observer.meaning_run_iff (hs : d.fstate = .run) : o.Meaning d ↔ o.InRun d := by
  simp only [Meaning, hs]
  exact ⟨fun ⟨h1, h2, h3, h4⟩ => ⟨h1, h2, h3, h4⟩, fun ⟨h1, h2, h3, h4⟩ => ⟨h1, h2, h3, h4⟩⟩

theorem Observer.meaning_drain_iff (hs : d.fstate = .drain) : o.Meaning d ↔ o.InDrain d := by
  simp only [Meaning, hs]
  exact ⟨fun ⟨h1, h2, h3, h4, h5⟩ => ⟨h1, h2, h3, h4, h5⟩, fun ⟨h1, h2, h3, h4, h5⟩ => ⟨h1, h2, h3, h4, h5⟩⟩

theorem Observer.meaning_done_iff (hs : d.fstate = .done) : o.Meaning d ↔ o.InDone d := by
  simp only [Meaning, hs]
  exact ⟨fun ⟨h1, h2, h3, h4, h5⟩ => ⟨h1, h2, h3, h4, h5⟩, fun ⟨h1, h2, h3, h4, h5⟩ => ⟨h1, h2, h3, h4, h5⟩⟩

theorem Observer.meaning_error_iff (hs : d.fstate = .error) : o.Meaning d ↔ o.InError d := by
  simp only [Meaning, hs]
  exact ⟨fun ⟨h1, h2, h3⟩ => ⟨h1, h2, h3⟩, fun ⟨h1, h2, h3⟩ => ⟨h1, h2, h3⟩⟩

/-- The flags, the interrupt registers and the table's selection are in no condition of the relation. -/
theorem Observer.Meaning.withRegisters (hm : o.Meaning d) (index : BitVec 12) (stage : Word) (werr cerr : Bool)
    (en stat : BitVec 2) :
    o.Meaning { d with
      ctIndex := index, ctStage := stage, ctWerr := werr, cmdErr := cerr, irqEn := en, irqStat := stat } :=
  hm

/-- Outside a frame the relation does not look at the table. -/
theorem Observer.Meaning.withTable (hm : o.Meaning d) (ha : d.active = false) (tbl : List Entry) (index : BitVec 12) :
    o.Meaning { d with ct := tbl, ctIndex := index } := by
  rcases d.active_eq_false_iff.mp ha with hs | hs | hs
  · exact meaning_of_idle hs
  all_goals simpa only [Meaning, hs] using hm

/-- The symbols read and still to be read are the same after a read. -/
theorem Observer.popped_append_tail (xs out : List Symbol) : xs ++ out.take 1 ++ out.tail = xs ++ out := by
  cases out <;> simp

theorem Observer.Meaning.popOut {p : Params} (h : d.Inv p) (hm : o.Meaning d) :
    ({ o with popped := o.popped ++ d.out.take 1 } : Observer).Meaning d.popOut := by
  have hkeep := popped_append_tail o.popped d.out
  cases hs : d.fstate with
  | idle => exact meaning_of_idle hs
  | header =>
    rw [(meaning_header_iff hs).mp hm, h.range.unopened (.inr hs)]
    exact (meaning_header_iff (d := d.popOut) hs).mpr rfl
  | run =>
    obtain ⟨htable, hcount, hsym, rest, hbytes, hbuf, hdec⟩ := (meaning_run_iff hs).mp hm
    rw [← hkeep] at hsym hdec
    exact (meaning_run_iff (d := d.popOut) hs).mpr ⟨htable, hcount, hsym, rest, hbytes, hbuf, hdec⟩
  | drain =>
    rw [h.frame.out_flushed (.inl hs), List.take_nil, List.append_nil]
    exact (meaning_drain_iff (d := d.popOut) hs).mpr { (meaning_drain_iff hs).mp hm with }
  | done =>
    obtain ⟨hresult, hsym, hcount, hhead, hpos⟩ := (meaning_done_iff hs).mp hm
    rw [← hkeep] at hresult hsym
    exact (meaning_done_iff (d := d.popOut) hs).mpr ⟨hresult, hsym, hcount, hhead, hpos⟩
  | error =>
    rw [h.frame.out_flushed (.inr hs), List.take_nil, List.append_nil]
    exact (meaning_error_iff (d := d.popOut) hs).mpr { (meaning_error_iff hs).mp hm with }

end Meaning

/-! ### What the relation says of the bytes of a frame -/

section InFrame

variable {o : Observer} {p : Params} {d : Dev} (h : d.Inv p) (hm : o.Meaning d)

include h hm

omit h in
/-- After the header byte the bytes are the padding and the payload received. -/
theorem Observer.Meaning.bytes_eq (hs : d.fstate = .run ∨ d.fstate = .drain) :
    ∃ rest, o.bytes = d.pad :: rest ∧ d.rBits = 8 * rest.length := by
  have hlen {rest : List Byte} (hcount : o.bytes.length = d.bytesRx) (hbytes : o.bytes = d.pad :: rest) :
      d.rBits = 8 * rest.length := by
    rw [d.rBits_eq, ← hcount, hbytes, List.length_cons, Nat.add_sub_cancel]
  rcases hs with hs | hs
  · obtain ⟨-, hcount, -, rest, hbytes, -, -⟩ := (Observer.meaning_run_iff hs).mp hm
    exact ⟨rest, hbytes, hlen hcount hbytes⟩
  · obtain ⟨-, hcount, hhead, -, -⟩ := (Observer.meaning_drain_iff hs).mp hm
    obtain ⟨rest, hbytes⟩ := List.head?_eq_some_iff.mp hhead
    exact ⟨rest, hbytes, hlen hcount hbytes⟩

/-- In a frame all bytes that are counted are recorded. -/
theorem Observer.Meaning.count (ha : d.active = true) : o.bytes.length = d.bytesRx := by
  rcases d.active_iff.mp ha with hs | hs | hs
  · obtain ⟨hbytes, -, -⟩ := h.counters_of_header hs
    rw [(Observer.meaning_header_iff hs).mp hm, hbytes]
    rfl
  · exact ((Observer.meaning_run_iff hs).mp hm).count
  · exact ((Observer.meaning_drain_iff hs).mp hm).count

/-- While the padding exceeds the payload no symbol has been read. -/
theorem Observer.Meaning.popped_of_truncated (hs : d.fstate = .run ∨ d.fstate = .drain) (hpad : d.rBits < d.pad.toNat) :
    o.popped = [] := by
  rcases hs with hs | hs
  · obtain ⟨-, hsym⟩ := Dev.nothing_decoded_of_truncated h.frame h.range hs hpad
    have hlen := ((Observer.meaning_run_iff hs).mp hm).symbols
    rw [hsym, List.length_eq_zero_iff, List.append_eq_nil_iff] at hlen
    exact hlen.1
  · rcases h.frame.pend_drain.2 hs with hcode | hcode
    · exact absurd (h.range.pend_certain hs hcode) hpad.asymm
    · exact (((Observer.meaning_drain_iff hs).mp hm).empty hcode).2.1

/-- In a frame the symbols read are symbols of the frame, if it ends here. -/
theorem Observer.Meaning.popped_prefix (ha : d.active = true) : o.popped <+: frameSymbols o.bytes o.table := by
  have hempty (he : o.popped = []) : o.popped <+: frameSymbols o.bytes o.table := he ▸ List.nil_prefix
  rcases d.active_iff.mp ha with hs | hs | hs
  · exact hempty (by rw [(Observer.meaning_header_iff hs).mp hm])
  · by_cases hpad : d.rBits < d.pad.toNat
    · exact hempty (hm.popped_of_truncated h (.inl hs) hpad)
    · obtain ⟨-, hcount, -, rest, hbytes, -, hdec⟩ := (Observer.meaning_run_iff hs).mp hm
      obtain ⟨-, hpos⟩ := h.frame.run_buf hs
      rw [d.rBits_eq, ← hcount, hbytes, List.length_cons, Nat.add_sub_cancel] at hpad hpos
      rw [hbytes, frameSymbols_of_decoded (not_lt.mp hpad) hpos hdec, List.append_assoc]
      exact List.prefix_append _ _
  · obtain ⟨-, -, -, hnone, hunknown⟩ := (Observer.meaning_drain_iff hs).mp hm
    rcases h.frame.pend_drain.2 hs with hcode | hcode
    · have hmore := (hunknown hcode []).2
      rwa [List.append_nil] at hmore
    · exact hempty (hnone hcode).2.1

/-- A limit of the hardware ends a frame with the symbols read so far. -/
theorem Observer.Meaning.frameError_of_limit (ha : d.active = true) {code : ErrCode} (hcode : code.ofDecoder = false)
    (pos : Word) : o.Meaning (d.frameError code pos) := by
  have hcount := hm.count h ha
  exact (Observer.meaning_error_iff rfl).mpr
    ⟨hcount, hm.popped_prefix h ha, fun hd => nomatch hcode.symm.trans hd⟩

/-- An error of the decoder ends a frame when it is what Decompress gives. -/
theorem Observer.Meaning.frameError (ha : d.active = true) {code : ErrCode} {pos : Word}
    (hresult : decompress o.bytes o.table = .err code pos.toNat) : o.Meaning (d.frameError code pos) := by
  have hcount := hm.count h ha
  exact (Observer.meaning_error_iff rfl).mpr ⟨hcount, hm.popped_prefix h ha, fun _ => hresult⟩

end InFrame

/-! ### The commands (R181 to R184) -/

section Commands

variable {o : Observer} {p : Params} {d : Dev}

theorem Observer.Meaning.clearTable (hm : o.Meaning d) : o.Meaning d.clearTable := by
  rcases d.clearTable_cases with ⟨-, e⟩ | ⟨ha, e⟩ <;> rw [e]
  · exact hm.withRegisters d.ctIndex d.ctStage true d.cmdErr d.irqEn d.irqStat
  · exact hm.withTable ha _ _

/-- The error's position is not cut: a legal frame has less than 2^32 bits. -/
theorem Dev.Inv.rawBits_toNat (h : d.Inv p) (hp : p.Legal) : d.rawBits.toNat = 8 * d.bytesRx := by
  obtain ⟨-, -, -, -, -, ⟨-, hmax⟩, -⟩ := hp
  obtain ⟨-, -, hbytes⟩ := h.frame.capacity
  rw [Dev.rawBits, BitVec.toNat_ofNat]
  omega

theorem Dev.Inv.rawPos_toNat (h : d.Inv p) (hp : p.Legal) (hbytes : 1 ≤ d.bytesRx) : d.rawPos.toNat = 8 + d.pos := by
  obtain ⟨-, -, -, -, -, ⟨-, hmax⟩, -⟩ := hp
  obtain ⟨-, -, hlimit⟩ := h.frame.capacity
  have hpos := h.range.counters.1
  rw [d.rBits_eq] at hpos
  rw [Dev.rawPos, BitVec.toNat_ofNat]
  omega

theorem Observer.Meaning.endStream (hp : p.Legal) (h : d.Inv p) (hm : o.Meaning d) : o.Meaning d.endStream := by
  have hactive := d.active_iff
  rcases d.endStream_cases with ⟨hs, e⟩ | ⟨hs, hpad, e⟩ | ⟨-, -, -, e⟩ | ⟨hs, hpad, e⟩ | ⟨-, e⟩ <;> rw [e]
  case inl =>
    refine hm.frameError h (hactive.mpr (.inl hs)) ?_
    rw [(Observer.meaning_header_iff hs).mp hm]
    rfl
  case inr.inl =>
    have hs' : d.fstate = .run ∨ d.fstate = .drain := hs.imp_left And.left
    refine hm.frameError h (hactive.mpr (.inr hs')) ?_
    have hcount := hm.count h (hactive.mpr (.inr hs'))
    obtain ⟨rest, hbytes, hbits⟩ := hm.bytes_eq hs'
    rw [h.rawBits_toNat hp, ← hcount, hbytes, decompress_of_truncated (hbits ▸ hpad)]
  case inr.inr.inl => exact hm
  case inr.inr.inr.inl =>
    refine hm.frameError h (hactive.mpr (.inr (.inr hs))) ?_
    obtain ⟨-, -, -, hempty, hunknown⟩ := (Observer.meaning_drain_iff hs).mp hm
    rcases h.frame.pend_drain.2 hs with hcode | hcode
    · have hmore := (hunknown hcode []).1
      rw [List.append_nil] at hmore
      rw [hcode, hmore]
    · obtain ⟨h0, -, hpend⟩ := hempty hcode
      obtain ⟨rest, hbytes, hbits⟩ := hm.bytes_eq (.inr hs)
      rw [hbytes, hcode, hpend, decompress_of_emptyTable (hbits ▸ hpad) h0]
      rfl
  case inr.inr.inr.inr => exact hm.withRegisters d.ctIndex d.ctStage d.ctWerr true d.irqEn d.irqStat

/-- What is recorded of START: an accepted one opens a new record. -/
theorem Observer.Meaning.start (hm : o.Meaning d) :
    (if d.active then o else ⟨d.ct, [], []⟩ : Observer).Meaning d.start := by
  rcases d.start_cases with ⟨ha, e⟩ | ⟨ha, e⟩ <;> rw [e, ha]
  · exact hm.withRegisters d.ctIndex d.ctStage d.ctWerr true d.irqEn d.irqStat
  · exact (meaning_header_iff rfl).mpr rfl

/-- What is recorded of a CTRL write before its START: ABORT empties the record. -/
def Observer.beforeStart (o : Observer) (v : Word) : Observer := if ctrlAbort v then Observer.fresh else o

theorem Observer.instr_wrCtrl (o : Observer) (v : Word) (s : State) :
    o.instr (.wrCtrl v) s =
      if ctrlStart v && !(s.dev.beforeStart v).active then ⟨(s.dev.beforeStart v).ct, [], []⟩
      else o.beforeStart v := rfl

theorem Observer.instr_wrCtrl_of_start (o : Observer) (s : State) {v : Word} (hv : ctrlStart v = true) :
    o.instr (.wrCtrl v) s =
      if (s.dev.beforeStart v).active then o.beforeStart v else ⟨(s.dev.beforeStart v).ct, [], []⟩ := by
  rw [instr_wrCtrl, hv]
  cases (s.dev.beforeStart v).active <;> rfl

theorem Observer.instr_wrCtrl_of_no_start (o : Observer) (s : State) {v : Word} (hv : ctrlStart v = false) :
    o.instr (.wrCtrl v) s = o.beforeStart v := by
  rw [instr_wrCtrl, hv]
  rfl

/-- What is recorded of a CTRL write keeps the relation, command by command. -/
theorem Observer.Meaning.control {s : State} (h : s.Inv) (hm : o.Meaning s.dev) (v : Word) :
    (o.instr (.wrCtrl v) s).Meaning (s.dev.control v) := by
  have hmbefore : (o.beforeStart v).Meaning (s.dev.beforeStart v) := by
    have habort : (o.beforeStart v).Meaning (s.dev.command (ctrlAbort v) Dev.abort) := by
      unfold beforeStart
      cases ctrlAbort v with
      | false => exact hm
      | true => exact meaning_of_idle rfl
    exact Dev.command_induction habort habort.clearTable _
  have hmstart : (o.instr (.wrCtrl v) s).Meaning (s.dev.beforeEnd v) := by
    unfold Dev.beforeEnd
    cases hv : ctrlStart v with
    | false =>
      rw [instr_wrCtrl_of_no_start o s hv]
      exact hmbefore
    | true =>
      rw [instr_wrCtrl_of_start o s hv]
      exact hmbefore.start
  exact Dev.command_induction hmstart (hmstart.endStream h.legal (h.dev.beforeEnd v)) _

end Commands

/-! ### A byte (R200 to R204) -/

section Byte

variable {o : Observer} {p : Params} {d : Dev}

/-- What is recorded of a byte: one that is accepted. -/
def Observer.pushByte (o : Observer) (p : Params) (d : Dev) (b : Byte) : Observer :=
  if d.inReady p then { o with bytes := o.bytes ++ [b] } else o

theorem Observer.pushByte_of_ready (o : Observer) {b : Byte} (hr : d.inReady p = true) :
    o.pushByte p d b = { o with bytes := o.bytes ++ [b] } := if_pos hr

theorem Observer.pushByte_of_not_ready (o : Observer) {b : Byte} (hr : d.inReady p = false) : o.pushByte p d b = o :=
  if_neg (ne_true_of_eq_false hr)

variable (h : d.Inv p) (hm : o.Meaning d) (b : Byte)

include h hm

theorem Observer.Meaning.takeHeader (hs : d.fstate = .header) :
    ({ o with bytes := o.bytes ++ [b] } : Observer).Meaning (d.takeHeader b) := by
  obtain rfl := (meaning_header_iff hs).mp hm
  obtain ⟨-, hpos, hsym⟩ := h.counters_of_header hs
  rcases Nat.eq_zero_or_pos d.ctCount with hct | hct
  · rw [Dev.takeHeader_of_empty hct]
    exact (meaning_drain_iff rfl).mpr ⟨rfl, rfl, rfl, fun _ => ⟨hct, rfl, rfl⟩, nofun⟩
  · have hbuf : d.buf = [] := h.frame.buf_empty (by simp [hs])
    have hout : d.out = [] := h.range.unopened (.inr hs)
    rw [Dev.takeHeader_of_nonempty hct]
    exact (meaning_run_iff rfl).mpr ⟨rfl, rfl, by simp [hout, hsym], [], rfl, by simp [hbuf], by simp [hout]⟩

theorem Observer.Meaning.takePayload (hs : d.fstate = .run) :
    ({ o with bytes := o.bytes ++ [b] } : Observer).Meaning (d.takePayload b) := by
  obtain ⟨htable, hcount, hsym, rest, hbytes, hbuf, hdec⟩ := (meaning_run_iff hs).mp hm
  have hpos : d.pos ≤ (bitsOfBytes rest).length := by
    have := h.range.counters.1
    rwa [d.rBits_eq, ← hcount, hbytes, List.length_cons, Nat.add_sub_cancel, ← bitsOfBytes_length] at this
  refine (meaning_run_iff (d := d.takePayload b) hs).mpr
    ⟨htable, by simp [hcount], hsym, rest ++ [b], by simp [hbytes], ?_, ?_⟩
  · rw [Dev.takePayload_buf, Dev.takePayload_pos, hbuf, bitsOfBytes_append, List.drop_append_of_le_length hpos,
      bitsOfBytes_cons, bitsOfBytes_nil, List.append_nil]
  · rw [Dev.takePayload_pos, bitsOfBytes_append, List.take_append_of_le_length hpos]
    exact hdec

omit h in
theorem Observer.Meaning.countByte (hs : d.fstate = .drain) :
    ({ o with bytes := o.bytes ++ [b] } : Observer).Meaning { d with bytesRx := d.bytesRx + 1 } := by
  obtain ⟨htable, hcount, hhead, hempty, hunknown⟩ := (meaning_drain_iff hs).mp hm
  refine (meaning_drain_iff (d := { d with bytesRx := d.bytesRx + 1 }) hs).mpr
    ⟨htable, by simp [hcount], ?_, hempty, fun hcode more => ?_⟩
  · obtain ⟨rest, hbytes⟩ := List.head?_eq_some_iff.mp hhead
    simp [hbytes]
  · rw [List.append_assoc]
    exact hunknown hcode ([b] ++ more)

theorem Observer.Meaning.pushByte : (o.pushByte p d b).Meaning (d.pushByte p b) := by
  have hready := d.inReady_iff p
  have hactive := d.active_iff
  rcases d.pushByte_cases p b with ⟨hs, e⟩ | ⟨hs, -, hr, e⟩ | ⟨hs, -, hr, e⟩ | ⟨hs, e⟩ | ⟨hs, e⟩ <;> rw [e]
  case inl =>
    rw [pushByte_of_ready o (hready.mpr (.inl hs))]
    exact hm.takeHeader h b hs
  case inr.inl =>
    rw [pushByte_of_ready o hr]
    exact hm.takePayload h b hs
  case inr.inr.inl =>
    have ha : d.active = true := hactive.mpr (.inr (.inl hs))
    rw [pushByte_of_not_ready o hr, Dev.refusePayload]
    split <;> exact hm.frameError_of_limit h ha rfl _
  case inr.inr.inr.inl =>
    have ha : d.active = true := hactive.mpr (.inr (.inr hs))
    obtain ⟨-, -, hlimit⟩ := h.frame.capacity
    rw [Dev.dropByte]
    split
    case isTrue hmax =>
      have hr : d.inReady p = false := by
        rw [← Bool.not_eq_true, hready]
        simp [hs, hmax]
      rw [pushByte_of_not_ready o hr]
      exact hm.frameError_of_limit h ha rfl _
    case isFalse hmax =>
      rw [pushByte_of_ready o (hready.mpr (.inr (.inr ⟨hs, by omega⟩)))]
      exact hm.countByte b hs
  case inr.inr.inr.inr =>
    have hr : d.inReady p = false := by
      rw [← Bool.not_eq_true, hready]
      rcases hs with hs | hs | hs | ⟨hs, he⟩ <;> simp [hs]
      simp [he]
    rw [pushByte_of_not_ready o hr]
    exact hm.withRegisters d.ctIndex d.ctStage d.ctWerr true d.irqEn d.irqStat

end Byte

/-! ### The engine (R224 to R228) -/

section Engine

variable {o : Observer} {p : Params} {d : Dev} (h : d.Inv p) (hm : o.Meaning d) (hs : d.fstate = .run)

include h hm hs

omit h in
/-- In RUN the bits received are those of the bytes after the first. -/
theorem Observer.Meaning.rBits_eq {rest : List Byte} (hbytes : o.bytes = d.pad :: rest) :
    d.rBits = 8 * rest.length := by
  obtain ⟨rest', hbytes', hbits⟩ := hm.bytes_eq (.inl hs)
  obtain ⟨-, rfl⟩ := List.cons.inj (hbytes'.symm.trans hbytes)
  exact hbits

omit h in
/-- In RUN the decodable window is what is undecoded of the payload received. -/
theorem Observer.Meaning.window_eq {rest : List Byte} (hbytes : o.bytes = d.pad :: rest)
    (hbuf : d.buf = (bitsOfBytes rest).drop d.pos) : d.window = undecoded d.pad rest d.pos := by
  rw [Dev.window, Dev.decodable_of_run hs, hm.rBits_eq hs hbytes, hbuf, undecoded]

omit h in
theorem Observer.Meaning.window_length {rest : List Byte} (hbytes : o.bytes = d.pad :: rest)
    (hbuf : d.buf = (bitsOfBytes rest).drop d.pos) : d.window.length = d.decodable := by
  rw [hm.window_eq hs hbytes hbuf, undecoded_length, Dev.decodable_of_run hs, hm.rBits_eq hs hbytes]

theorem Observer.Meaning.table_nonempty : tableCount o.table ≠ 0 := by
  have htable := ((meaning_run_iff hs).mp hm).table
  exact htable ▸ Nat.one_le_iff_ne_zero.mp (h.range.run_table hs)

theorem Observer.Meaning.pos_le {rest : List Byte} (hbytes : o.bytes = d.pad :: rest) :
    d.pos ≤ 8 * rest.length - d.pad.toNat := by
  obtain ⟨-, hpos⟩ := h.frame.run_buf hs
  rwa [hm.rBits_eq hs hbytes] at hpos

omit h in
theorem Observer.Meaning.decodeStep {hit : Hit} (hmatch : matchTable d.ct d.window = some hit) :
    o.Meaning (d.decodeStep hit) := by
  obtain ⟨htable, hcount, hsym, rest, hbytes, hbuf, hdec⟩ := (meaning_run_iff hs).mp hm
  have hcode : ((bitsOfBytes rest).drop d.pos).take hit.len = d.window.take hit.len := by
    obtain ⟨-, hlen⟩ := matchTable_len hmatch
    rw [Dev.window, List.take_take, hbuf, Nat.min_eq_left (hlen.trans d.window_length_le)]
  have hsyms : o.popped ++ (d.decodeStep hit).out = o.popped ++ d.out ++ [hit.sym] := by
    rw [Dev.decodeStep_out, List.append_assoc]
  refine (meaning_run_iff (d := d.decodeStep hit) hs).mpr ⟨htable, hcount, ?_, rest, hbytes, ?_, ?_⟩
  · rw [hsyms, List.length_append, hsym]
    rfl
  · rw [Dev.decodeStep_buf, Dev.decodeStep_pos, hbuf, List.drop_drop]
  · rw [Dev.decodeStep_pos, List.take_add, decodeAll_append hdec, hcode,
      decodeAll_take_of_some (htable ▸ hmatch), hsyms]
    rfl

/-- A frame of which the bits left match no code fails at POS, with the symbols so far emitted. -/
theorem Observer.Meaning.unmatched {rest : List Byte} (hbytes : o.bytes = d.pad :: rest) (hone : 1 ≤ d.decodable)
    {more : List Byte} (hmatch : matchTable o.table (undecoded d.pad (rest ++ more) d.pos) = none) :
    decompress (o.bytes ++ more) o.table = .err .unknownCode (8 + d.pos) ∧
    o.popped <+: frameSymbols (o.bytes ++ more) o.table := by
  obtain ⟨-, -, -, rest', hbytes', -, hdec⟩ := (meaning_run_iff hs).mp hm
  obtain ⟨-, rfl⟩ := List.cons.inj (hbytes'.symm.trans hbytes)
  have hlen : (rest' ++ more).length = rest'.length + more.length := List.length_append
  rw [Dev.decodable_of_run hs, hm.rBits_eq hs hbytes] at hone
  have hpad : d.pad.toNat ≤ 8 * (rest' ++ more).length := by omega
  have hpos : d.pos ≤ 8 * (rest' ++ more).length - d.pad.toNat := by omega
  have hne : undecoded d.pad (rest' ++ more) d.pos ≠ [] := by
    rw [← List.length_pos_iff, undecoded_length]
    omega
  have hdec' : decodeAll ((bitsOfBytes (rest' ++ more)).take d.pos) o.table = ⟨o.popped ++ d.out, none⟩ := by
    rwa [bitsOfBytes_append, List.take_append_of_le_length (by rw [bitsOfBytes_length]; omega)]
  rw [hbytes, List.cons_append, frameSymbols_of_decoded hpad hpos hdec', List.append_assoc]
  exact ⟨decompress_of_unmatched hpad hpos hdec' (hm.table_nonempty h hs) hne hmatch, List.prefix_append _ _⟩

theorem Observer.Meaning.unmatchStep (hp : p.Legal) (hmatch : matchTable d.ct d.window = none)
    (hlen : d.lMaxT ≤ d.decodable) : o.Meaning d.unmatchStep := by
  obtain ⟨htable, hcount, -, rest, hbytes, hbuf, -⟩ := (meaning_run_iff hs).mp hm
  have hone : 1 ≤ d.decodable := (h.range.one_le_lMaxT hs).trans hlen
  rw [← hm.window_length hs hbytes hbuf] at hlen
  refine (meaning_drain_iff rfl).mpr ⟨htable, hcount, by rw [hbytes]; rfl, nofun, fun _ more => ?_⟩
  rw [Dev.unmatchStep_pendPos, h.rawPos_toNat hp (h.range.counted.2 (.inl hs))]
  refine hm.unmatched h hs hbytes hone ?_
  obtain ⟨x, hx⟩ := undecoded_prefix d.pad rest more d.pos
  rw [← hx, ← hm.window_eq hs hbytes hbuf, ← htable]
  exact matchTable_append_of_none hmatch hlen x

theorem Observer.Meaning.failEndStep (hp : p.Legal) (hmatch : matchTable d.ct d.window = none)
    (hone : 1 ≤ d.decodable) : o.Meaning d.failEndStep := by
  obtain ⟨htable, -, -, rest, hbytes, hbuf, -⟩ := (meaning_run_iff hs).mp hm
  have hend : matchTable o.table (undecoded d.pad (rest ++ []) d.pos) = none := by
    rwa [List.append_nil, ← hm.window_eq hs hbytes hbuf, ← htable]
  obtain ⟨hresult, -⟩ := hm.unmatched h hs hbytes hone hend
  refine hm.frameError h (d.active_iff.mpr (.inr (.inl hs))) ?_
  rwa [h.rawPos_toNat hp (h.range.counted.2 (.inl hs)), ← List.append_nil o.bytes]

theorem Observer.Meaning.finishStep (he : d.ended = true) (h0 : d.decodable = 0) : o.Meaning d.finishStep := by
  obtain ⟨-, hcount, hsym, rest, hbytes, -, hdec⟩ := (meaning_run_iff hs).mp hm
  have hbits := hm.rBits_eq hs hbytes
  have hpad : d.pad.toNat ≤ 8 * rest.length := hbits ▸ h.range.ended_pad hs he
  have hpos := hm.pos_le h hs hbytes
  have hnil : undecoded d.pad rest d.pos = [] := by
    rwa [← List.length_eq_zero_iff, undecoded_length, ← hbits, ← Dev.decodable_of_run hs]
  obtain ⟨hlast, -⟩ := Dev.padding_left_of_decodable_eq_zero h.frame h.range hs he h0
  have hresult := decompress_of_decoded hpad hpos hdec (hm.table_nonempty h hs) hnil
  refine (meaning_done_iff rfl).mpr ⟨hbytes ▸ hresult, hsym, hcount, by rw [hbytes]; rfl, ?_⟩
  rw [Dev.finishStep_pos, Dev.finishStep_pad, hlast, hbits, hbytes, List.length_cons, Nat.add_sub_cancel]

omit hs in
theorem Observer.Meaning.engineTurn (hp : p.Legal) : o.Meaning (d.engineTurn p) := by
  rcases d.engineTurn_cases p with e | ⟨hs, ⟨hit, hmatch, -, e⟩ | ⟨hmatch, -, hlen, e⟩ | ⟨-, he, h0, e⟩ |
    ⟨hmatch, -, hone, e⟩⟩ <;> rw [e]
  · exact hm
  · exact hm.decodeStep hs hmatch
  · exact hm.unmatchStep h hs hp hmatch hlen
  · exact hm.finishStep h hs he h0
  · exact hm.failEndStep h hs hp hmatch hone

end Engine

/-! ### An instruction, and a step -/

theorem Observer.Meaning.commitEntry {o : Observer} {p : Params} {d : Dev} (hm : o.Meaning d) (v : Word) :
    o.Meaning (d.commitEntry p v) := by
  by_cases hrefused : d.active = true ∨ lenRefused p v = true
  · rw [Dev.commitEntry_of_refused hrefused]
    exact hm.withRegisters d.ctIndex d.ctStage true d.cmdErr d.irqEn d.irqStat
  · obtain ⟨ha, hlen⟩ := not_or.mp hrefused
    rw [Bool.not_eq_true] at ha
    rw [Dev.commitEntry_of_accepted ha hlen]
    exact hm.withTable ha _ _

/-- Only CTRL and DATA_IN writes and the DATA_OUT read are recorded. -/
theorem Observer.instr_of_other (o : Observer) (s : State) {i : Instr} (hctrl : ∀ v, i ≠ .wrCtrl v)
    (hdata : ∀ v, i ≠ .wrDataIn v) (hread : i ≠ .rdDataOut) : o.instr i s = o := by
  cases i
  case wrCtrl v => exact absurd rfl (hctrl v)
  case wrDataIn v => exact absurd rfl (hdata v)
  case rdDataOut => exact absurd rfl hread
  all_goals rfl

/-- A DATA_OUT read leaves the block as `popOut` does, also when OUT is empty. -/
theorem dev_of_exec_rdDataOut {s t : State} (he : exec .rdDataOut s = .next t) : t.dev = s.dev.popOut := by
  cases hout : s.dev.out with
  | nil =>
    rw [exec_rdDataOut_of_empty hout] at he
    cases he
    rw [State.answered_dev, Dev.popOut, hout, List.tail_nil, ← hout]
  | cons sym rest =>
    rw [exec_rdDataOut_of_cons hout] at he
    cases he
    rfl

theorem exec_meaning {o : Observer} {i : Instr} {s t : State} (h : s.Inv) (hm : o.Meaning s.dev)
    (he : exec i s = .next t) : (o.instr i s).Meaning t.dev := by
  by_cases hctrl : ∃ v, i = .wrCtrl v
  · obtain ⟨v, rfl⟩ := hctrl
    rw [dev_of_exec_wrCtrl he]
    exact hm.control h v
  by_cases hdata : ∃ v, i = .wrDataIn v
  · obtain ⟨v, rfl⟩ := hdata
    cases he
    exact hm.pushByte h.dev (dataByte v)
  by_cases hread : i = .rdDataOut
  · subst hread
    rw [dev_of_exec_rdDataOut he]
    exact hm.popOut h.dev
  rw [not_exists] at hctrl hdata
  rw [o.instr_of_other s hctrl hdata hread]
  rcases exec_dev_cases he with e | ⟨hi, -⟩ | ⟨v, hi, -⟩ | ⟨v, -, e⟩ | ⟨v, -, e⟩ | ⟨v, -, e⟩ | ⟨v, -, e⟩ | ⟨v, -, e⟩ |
    ⟨v, -, e⟩ | ⟨v, hi, -⟩
  case inr.inl => exact absurd hi hread
  case inr.inr.inl => exact absurd hi (hctrl v)
  case inr.inr.inr.inr.inr.inr.inr.inr.inl => exact e ▸ hm.commitEntry v
  case inr.inr.inr.inr.inr.inr.inr.inr.inr => exact absurd hi (hdata v)
  all_goals
    rw [e]
    exact hm

/-- Every step but a power-down keeps the relation. -/
theorem step_meaning {o : Observer} {s t : State} (h : s.Inv) (hm : o.Meaning s.dev) (hstep : step s = .next t)
    (hpower : ∀ rest, s.schedule ≠ .powerDown :: rest) : (o.step s).Meaning t.dev := by
  obtain ⟨-, -, ⟨hs, e, -⟩ | ⟨a, rest, hs, ha, e, -⟩ | ⟨a, rest, w, hs, ha, he, -⟩ | ⟨hs, e, -⟩ | ⟨rest, hs, -⟩⟩ :=
    step_dev_cases hstep
  · have ho : o.step s = o := by rcases hs with hs | ⟨rest, hs⟩ <;> simp only [Observer.step, hs]
    rw [ho, e]
    exact hm.engineTurn h.dev h.legal
  · have ho : o.step s = o := by rcases ha with ha | ⟨dir, ha⟩ <;> simp only [Observer.step, hs, ha]
    rwa [ho, e]
  · have ho : o.step s = o.instr (decode w) { s with schedule := rest } := by
      simp only [Observer.step, hs, ha]
      rfl
    rw [ho]
    exact exec_meaning (s := { s with schedule := rest }) ⟨h.legal, h.frame, h.range⟩ hm he
  · rw [e]
    exact Observer.meaning_of_idle rfl
  · exact absurd hs (hpower rest)

/-- And from a power-down on every step keeps it unknown, until a reset. -/
theorem step_meaning_sound {o : Observer} {s t : State} (h : s.Sound) (hm : s.lost = false → o.Meaning s.dev)
    (hstep : step s = .next t) (hlost : t.lost = false) : (o.step s).Meaning t.dev := by
  obtain ⟨-, hinv⟩ := h
  obtain ⟨-, -, hcases⟩ := step_dev_cases hstep
  rcases hcases with ⟨hs, -, hl⟩ | ⟨a, rest, hs, -, -, hl⟩ | ⟨a, rest, w, hs, -, -, hl⟩ | ⟨-, e, -⟩ | ⟨rest, -, -, hl⟩
  case inr.inr.inr.inl => exact e ▸ Observer.meaning_of_idle rfl
  case inr.inr.inr.inr => exact absurd (hl.symm.trans hlost) (by decide)
  all_goals
    have hpower : ∀ rest, s.schedule ≠ .powerDown :: rest := by
      rintro rest' hs'
      simp [hs'] at hs
    rw [hlost] at hl
    exact step_meaning (hinv hl.symm) (hm hl.symm) hstep hpower

/-- Settles O47: `step_meaning` and `step_meaning_sound`. -/
theorem stepKeepsTheMeaningOfTheFrame : Obligations.StepKeepsTheMeaningOfTheFrame :=
  ⟨fun _ _ _ => step_meaning, fun _ _ _ => step_meaning_sound⟩

/-! ### Runs -/

/-- Every observed run keeps the invariant and the relation, as they are from a power-down on. -/
theorem observedRun_keeps {n : Nat} {o o' : Observer} {s s' : State} (h : s.Sound)
    (hm : s.lost = false → o.Meaning s.dev) (hrun : observedRun n o s = (o', s')) :
    s'.Sound ∧ (s'.lost = false → o'.Meaning s'.dev) := by
  induction n generalizing o s with
  | zero =>
    cases hrun
    exact ⟨h, hm⟩
  | succ n ih =>
    obtain ⟨t, ht, -⟩ := everyStepCompletes s
    rw [observedRun, ht] at hrun
    exact ih (step_sound h ht) (step_meaning_sound h hm ht) hrun

/-- Settles O48: the relation, which holds after reset, says it of DONE and of ERROR. -/
theorem everyRunDecompressesItsFrames : Obligations.EveryRunDecompressesItsFrames := by
  intro p events n hp o s hrun hlost
  have hreset := Dev.reset_inv p
  have hstart : ({ State.resetWith p with schedule := events } : State).Sound :=
    ⟨hp, fun _ => ⟨hp, hreset.frame, hreset.range⟩⟩
  obtain ⟨⟨-, hinv⟩, hmeaning⟩ := observedRun_keeps hstart (fun _ => Observer.meaning_of_idle rfl) hrun
  have h := hinv hlost
  have hm := hmeaning hlost
  refine ⟨fun hs => ?done, fun hs => ?error⟩
  case done =>
    obtain ⟨hresult, hsym, hcount, hhead, hpos⟩ := (Observer.meaning_done_iff hs).mp hm
    obtain ⟨rest, hbytes⟩ := List.head?_eq_some_iff.mp hhead
    rw [hbytes, List.length_cons, Nat.add_sub_cancel] at hpos
    exact ⟨hresult, hsym.symm, h.dev.errCode_of_ne_error (by simp [hs]), hcount.symm, _, rest, hbytes, hpos⟩
  case error =>
    obtain ⟨-, hpopped, hresult⟩ := (Observer.meaning_error_iff hs).mp hm
    exact ⟨fun hcode => hresult (by rcases hcode with e | e | e <;> rw [e] <;> rfl), hpopped⟩

end Sys2Proof.Machine

/-!
PROOFS. What a step leaves unchanged: the frames of the reads, the engine's turn and the CTRL write, the error entry
(R290), the table's lock (R83), the sticky interrupt status (R287) and the counters (R80).
-/

namespace Sys2Proof.Machine

/-! ### A step by the next event (R78, R79) -/

theorem step_of_cons {s : State} {e : Event} {rest : List Event} (hs : s.schedule = e :: rest) :
    step s = stepEvent e { s with schedule := rest } := by
  rw [step, hs]

theorem step_of_nil {s : State} (hs : s.schedule = []) : step s = .next s.engineTurn := by
  rw [step, hs]

/-- An address outside the window does not reach the block (R71). -/
theorem stepAccess_outside {s : State} {a : Access} (ha : a.addr < s.cfg.base ∨ s.cfg.base + 128 ≤ a.addr) :
    stepAccess a s = .next s := by
  have hout : ¬ (s.cfg.base ≤ a.addr ∧ a.addr < s.cfg.base + 128) := by omega
  simp only [stepAccess, arrive, windowOffset, if_neg hout]

/-- The access of a transaction word runs the instruction that the word decodes to. -/
theorem stepAccess_accessOf (s : State) (t : TWord) : stepAccess (accessOf s.cfg t) s = exec (decode t) s := by
  rw [stepAccess, arrive_accessOf]

/-- Settles O5: `step` takes the first event, and an access of the window arrives as its word, by
`stepAccess_accessOf`. -/
theorem stepRunsTheDecodedInstruction : Obligations.StepRunsTheDecodedInstruction := by
  refine ⟨fun s rest dir off data hs => ?word, fun s rest i hi hs => ?instr,
    fun s rest a hs => ⟨step_of_cons hs, fun ha => ?outside⟩, fun s rest hs => step_of_cons hs,
    fun s rest a hs => step_of_cons hs, fun s rest hs => step_of_cons hs, fun s rest hs => step_of_cons hs,
    fun s => step_of_nil⟩
  case word =>
    have haccess : (⟨s.cfg.base + off.toNat, dir, data, true⟩ : Access) = accessOf s.cfg (mkTWord dir off data) := by
      rw [accessOf, twDir_mkTWord, twOff_mkTWord, twData_mkTWord]
    rw [step_of_cons hs, haccess]
    exact stepAccess_accessOf { s with schedule := rest } _
  case instr =>
    rw [step_of_cons hs, stepEvent, stepAccess_accessOf { s with schedule := rest }, encodeThenDecode i hi]
  case outside => exact (step_of_cons hs).trans (stepAccess_outside ha)

/-! ### Reads and the engine's turn -/

/-- Settles O15: of the operations that touch the block only `popOut` is a read's. -/
theorem otherReadsHaveNoSideEffect : Obligations.OtherReadsHaveNoSideEffect := by
  intro i s t hdir hi he
  obtain ⟨u, hu, hcfg, hsched, -, -⟩ := exec_next i s
  obtain rfl : u = t := by simpa [he] using hu.symm
  refine ⟨?_, hcfg, hsched⟩
  rcases exec_dev_cases he with e | ⟨rfl, -⟩ | ⟨v, rfl, -⟩ | ⟨v, rfl, -⟩ | ⟨v, rfl, -⟩ | ⟨v, rfl, -⟩ | ⟨v, rfl, -⟩ |
    ⟨v, rfl, -⟩ | ⟨v, rfl, -⟩ | ⟨v, rfl, -⟩
  case inl => exact e
  case inr.inl => exact absurd rfl hi
  all_goals cases hdir

theorem Dev.enabledStep_of_ne_run (p : Params) {d : Dev} (hs : d.fstate ≠ .run) : d.enabledStep p = none := by
  cases h : d.fstate
  case run => exact absurd h hs
  all_goals simp only [Dev.enabledStep, h]

/-- Settles O31: with no step enabled the turn is nothing, and a turn changes the block alone. -/
theorem engineTurnsOnlyInRun : Obligations.EngineTurnsOnlyInRun := fun s =>
  ⟨fun hs => ⟨Dev.enabledStep_of_ne_run s.cfg hs, State.engineTurn_of_no_step (Dev.enabledStep_of_ne_run s.cfg hs)⟩,
    rfl, rfl, rfl, rfl, rfl⟩

/-! ### What the commands of CTRL keep (R181 to R184) -/

/-- What no command changes from `d` to `e`, and the bits that it does not clear. -/
structure Dev.CommandFrame (d e : Dev) : Prop where
  stage : e.ctStage = d.ctStage
  enables : e.irqEn = d.irqEn
  werr : d.ctWerr = true → e.ctWerr = true
  cerr : d.cmdErr = true → e.cmdErr = true
  doneBit : e.irqStat.getLsbD 0 = d.irqStat.getLsbD 0
  errBit : d.irqStat.getLsbD 1 = true → e.irqStat.getLsbD 1 = true

/-- `e` has the table of `d`, and no commit was rejected between them. -/
structure Dev.SameTable (d e : Dev) : Prop where
  ct : e.ct = d.ct
  index : e.ctIndex = d.ctIndex
  werr : e.ctWerr = d.ctWerr

theorem Dev.CommandFrame.refl (d : Dev) : d.CommandFrame d := ⟨rfl, rfl, id, id, rfl, id⟩

theorem Dev.CommandFrame.trans {d e f : Dev} (h : d.CommandFrame e) (h' : e.CommandFrame f) : d.CommandFrame f where
  stage := h'.stage.trans h.stage
  enables := h'.enables.trans h.enables
  werr := h'.werr ∘ h.werr
  cerr := h'.cerr ∘ h.cerr
  doneBit := h'.doneBit.trans h.doneBit
  errBit := h'.errBit ∘ h.errBit

theorem Dev.SameTable.refl (d : Dev) : d.SameTable d := ⟨rfl, rfl, rfl⟩

theorem Dev.SameTable.trans {d e f : Dev} (h : d.SameTable e) (h' : e.SameTable f) : d.SameTable f :=
  ⟨h'.ct.trans h.ct, h'.index.trans h.index, h'.werr.trans h.werr⟩

section Commands

variable (d : Dev)

theorem Dev.frameError_irqStat_zero (code : ErrCode) (pos : Word) :
    (d.frameError code pos).irqStat.getLsbD 0 = d.irqStat.getLsbD 0 := by
  simp

theorem Dev.frameError_irqStat_one (code : ErrCode) (pos : Word) :
    (d.frameError code pos).irqStat.getLsbD 1 = true := by
  simp

theorem Dev.frameError_commandFrame (code : ErrCode) (pos : Word) : d.CommandFrame (d.frameError code pos) :=
  ⟨rfl, rfl, id, id, d.frameError_irqStat_zero code pos, fun _ => d.frameError_irqStat_one code pos⟩

theorem Dev.setCmdErr_commandFrame : d.CommandFrame { d with cmdErr := true } := ⟨rfl, rfl, id, fun _ => rfl, rfl, id⟩

theorem Dev.abort_commandFrame : d.CommandFrame d.abort := ⟨rfl, rfl, id, id, rfl, id⟩

theorem Dev.abort_sameTable : d.SameTable d.abort := ⟨rfl, rfl, rfl⟩

theorem Dev.start_commandFrame : d.CommandFrame d.start := by
  rcases d.start_cases with ⟨-, e⟩ | ⟨-, e⟩ <;> rw [e]
  · exact d.setCmdErr_commandFrame
  · exact ⟨rfl, rfl, id, id, rfl, id⟩

theorem Dev.start_sameTable : d.SameTable d.start := by
  rcases d.start_cases with ⟨-, e⟩ | ⟨-, e⟩ <;> rw [e] <;> exact ⟨rfl, rfl, rfl⟩

theorem Dev.clearTable_commandFrame : d.CommandFrame d.clearTable := by
  rcases d.clearTable_cases with ⟨-, e⟩ | ⟨-, e⟩ <;> rw [e]
  · exact ⟨rfl, rfl, fun _ => rfl, id, rfl, id⟩
  · exact ⟨rfl, rfl, id, id, rfl, id⟩

theorem Dev.endStream_commandFrame : d.CommandFrame d.endStream := by
  rcases d.endStream_cases with ⟨-, e⟩ | ⟨-, -, e⟩ | ⟨-, -, -, e⟩ | ⟨-, -, e⟩ | ⟨-, e⟩ <;> rw [e]
  case inr.inr.inl => exact ⟨rfl, rfl, id, id, rfl, id⟩
  case inr.inr.inr.inr => exact d.setCmdErr_commandFrame
  all_goals exact d.frameError_commandFrame _ _

theorem Dev.endStream_sameTable : d.SameTable d.endStream := by
  rcases d.endStream_cases with ⟨-, e⟩ | ⟨-, -, e⟩ | ⟨-, -, -, e⟩ | ⟨-, -, e⟩ | ⟨-, e⟩ <;> rw [e] <;>
    exact ⟨rfl, rfl, rfl⟩

theorem Dev.beforeEnd_commandFrame (v : Word) : d.CommandFrame (d.beforeEnd v) :=
  (((Dev.command_induction (.refl d) d.abort_commandFrame (ctrlAbort v)).trans
    (Dev.command_induction (.refl _) (Dev.clearTable_commandFrame _) (ctrlCtClear v))).trans
    (Dev.command_induction (.refl _) (Dev.start_commandFrame _) (ctrlStart v)))

theorem Dev.control_commandFrame (v : Word) : d.CommandFrame (d.control v) :=
  (d.beforeEnd_commandFrame v).trans
    (Dev.command_induction (.refl _) (Dev.endStream_commandFrame _) (ctrlEnd v))

/-- Without CT_CLEAR no command touches the table. -/
theorem Dev.control_sameTable {v : Word} (hv : v.getLsbD 3 = false) : d.SameTable (d.control v) := by
  have habort := Dev.command_induction (.refl d) d.abort_sameTable (ctrlAbort v)
  have hclear : (d.command (ctrlAbort v) Dev.abort).SameTable (d.beforeStart v) := by
    rw [Dev.beforeStart, ctrlCtClear, hv]
    exact .refl _
  exact ((habort.trans hclear).trans (Dev.command_induction (.refl _) (Dev.start_sameTable _) (ctrlStart v))).trans
    (Dev.command_induction (.refl _) (Dev.endStream_sameTable _) (ctrlEnd v))

end Commands

/-- Settles O26: `Dev.control_commandFrame` and `Dev.control_sameTable`. -/
theorem controlFrame : Obligations.ControlFrame := by
  intro s t v he
  cases he
  obtain ⟨hstage, hen, hwerr, hcerr, hdone, herr⟩ := s.dev.control_commandFrame v
  refine ⟨rfl, rfl, hstage, hen, fun hv => ?_, hwerr, hcerr, hdone, herr⟩
  obtain ⟨hct, hindex, hsame⟩ := s.dev.control_sameTable hv
  exact ⟨hct, hindex, hsame⟩

/-! ### The error entry, wherever a step takes it (R290) -/

/-- `e` is the error entry from `d`, with a code that the block raises. -/
def Dev.EntersError (d e : Dev) : Prop := ∃ code pos, code.Raised ∧ e = d.frameError code pos

section EntersError

variable {p : Params} {d : Dev} (h : d.Inv p)

include h

theorem Dev.Inv.endStream_entersError (hne : d.fstate ≠ .error) (hs : d.endStream.fstate = .error) :
    d.EntersError d.endStream := by
  rcases d.endStream_cases with ⟨-, e⟩ | ⟨-, -, e⟩ | ⟨hrun, -, -, e⟩ | ⟨hdrain, -, e⟩ | ⟨-, e⟩
  case inl | inr.inl => exact ⟨_, _, by simp [ErrCode.Raised], e⟩
  case inr.inr.inr.inl =>
    have hpend : d.pend.Raised := by
      rcases h.frame.pend_drain.2 hdrain with hcode | hcode <;> simp [hcode, ErrCode.Raised]
    exact ⟨_, _, hpend, e⟩
  case inr.inr.inl => simp [e, hrun] at hs
  case inr.inr.inr.inr => exact absurd (by rwa [e] at hs) hne

omit h in
theorem Dev.pushByte_entersError (b : Byte) (hne : d.fstate ≠ .error) (hs : (d.pushByte p b).fstate = .error) :
    d.EntersError (d.pushByte p b) := by
  rcases d.pushByte_cases p b with ⟨-, e⟩ | ⟨hrun, -, -, e⟩ | ⟨-, -, -, e⟩ | ⟨hdrain, e⟩ | ⟨-, e⟩ <;> rw [e] at hs ⊢
  case inl => rcases d.takeHeader_fstate b with ⟨-, hrun⟩ | ⟨-, hdrain, -⟩ <;> simp_all
  case inr.inl => simp [hrun] at hs
  case inr.inr.inl =>
    rw [Dev.refusePayload]
    split <;> exact ⟨_, _, by simp [ErrCode.Raised], rfl⟩
  case inr.inr.inr.inl =>
    rw [Dev.dropByte] at hs ⊢
    split at hs
    case isTrue hmax => exact ⟨_, _, by simp [ErrCode.Raised], if_pos hmax⟩
    case isFalse => exact absurd hs hne
  case inr.inr.inr.inr => exact absurd hs hne

omit h in
theorem Dev.engineTurn_entersError (hne : d.fstate ≠ .error) (hs : (d.engineTurn p).fstate = .error) :
    d.EntersError (d.engineTurn p) := by
  rcases d.engineTurn_cases p with e | ⟨hrun, ⟨hit, -, -, e⟩ | ⟨-, -, -, e⟩ | ⟨-, -, -, e⟩ | ⟨-, -, -, e⟩⟩ <;>
    rw [e] at hs ⊢
  case inl => exact absurd hs hne
  case inr.inl => simp [hrun] at hs
  case inr.inr.inr.inr => exact ⟨_, _, by simp [ErrCode.Raised], rfl⟩
  all_goals cases hs

omit h in
theorem Dev.beforeEnd_ne_error (v : Word) (hne : d.fstate ≠ .error) : (d.beforeEnd v).fstate ≠ .error := by
  have habort : (d.command (ctrlAbort v) Dev.abort).fstate ≠ .error :=
    Dev.command_induction (P := fun e => e.fstate ≠ .error) hne (by simp) _
  have hclear : (d.beforeStart v).fstate ≠ .error :=
    Dev.command_induction (P := fun e => e.fstate ≠ .error) habort (by rwa [Dev.clearTable_fstate]) _
  refine Dev.command_induction (P := fun e => e.fstate ≠ .error) hclear ?_ _
  rcases (d.beforeStart v).start_cases with ⟨-, e⟩ | ⟨-, e⟩ <;> rw [e]
  · exact hclear
  · exact nofun

/-- A CTRL write enters ERROR by its END only. -/
theorem Dev.Inv.control_entersError (v : Word) (hne : d.fstate ≠ .error) (hs : (d.control v).fstate = .error) :
    (d.beforeEnd v).EntersError (d.control v) := by
  have hbefore := Dev.beforeEnd_ne_error v hne
  rw [Dev.control_eq] at hs ⊢
  cases hv : ctrlEnd v <;> rw [hv] at hs
  · exact absurd hs hbefore
  · exact (h.beforeEnd v).endStream_entersError hbefore hs

end EntersError

/-- A step that enters ERROR takes the error entry from the block as it was, or, in a CTRL write, as END finds it. -/
theorem step_entersError {s t : State} (h : s.Inv) (hstep : step s = .next t) (hne : s.dev.fstate ≠ .error)
    (ht : t.dev.fstate = .error) (hpower : ∀ rest, s.schedule ≠ .powerDown :: rest) :
    s.dev.EntersError t.dev ∨
    ∃ a rest w v, s.schedule = .access a :: rest ∧ arrive s.cfg a = .word w ∧ decode w = .wrCtrl v ∧
      (s.dev.beforeEnd v).EntersError t.dev := by
  obtain ⟨-, -, ⟨-, e, -⟩ | ⟨a, rest, -, -, e, -⟩ | ⟨a, rest, w, hs, ha, he, -⟩ | ⟨-, e, -⟩ | ⟨rest, hs, -⟩⟩ :=
    step_dev_cases hstep
  · rw [e] at ht ⊢
    exact .inl (Dev.engineTurn_entersError hne ht)
  · exact absurd (e ▸ ht) hne
  · by_cases hctrl : ∃ v, decode w = .wrCtrl v
    · obtain ⟨v, hv⟩ := hctrl
      rw [hv] at he
      rw [dev_of_exec_wrCtrl he] at ht ⊢
      exact .inr ⟨a, rest, w, v, hs, ha, hv, h.dev.control_entersError v hne ht⟩
    by_cases hdata : ∃ v, decode w = .wrDataIn v
    · obtain ⟨v, hv⟩ := hdata
      rw [hv] at he
      cases he
      exact .inl (Dev.pushByte_entersError (dataByte v) hne ht)
    · rw [not_exists] at hctrl hdata
      exact absurd ((exec_keeps_fstate he hctrl hdata).symm.trans ht) hne
  · rw [e] at ht
    cases ht
  · exact absurd hs (hpower rest)

/-- Settles O50: the error entry of `step_entersError`; END of a CTRL write finds the enables and the DONE status as
the step found them. -/
theorem enteringErrorIsTheErrorEntry : Obligations.EnteringErrorIsTheErrorEntry := by
  intro s t h hstep hne ht hpower
  rcases step_entersError h hstep hne ht hpower with
    ⟨code, pos, hcode, e⟩ | ⟨a, rest, w, v, hs, ha, hv, code, pos, hcode, e⟩ <;> rw [e]
  · exact ⟨rfl, rfl, rfl, rfl, Dev.frameError_irqStat_one _ _ _, Dev.frameError_irqStat_zero _ _ _, rfl, hcode,
      fun _ => ⟨rfl, rfl, rfl, rfl, rfl, rfl, rfl, rfl, rfl⟩⟩
  · have hframe := s.dev.beforeEnd_commandFrame v
    exact ⟨rfl, rfl, rfl, rfl, Dev.frameError_irqStat_one _ _ _,
      (Dev.frameError_irqStat_zero _ _ _).trans hframe.doneBit, hframe.enables, hcode,
      fun hnot => absurd hv (hnot a rest w hs ha v)⟩

/-! ### A step that is neither the platform's nor a power-down -/

/-- What a step does that is not the platform's: the engine's turn, nothing, or an instruction. -/
theorem step_dev_cases_of_host {s t : State} (hstep : step s = .next t) (hplat : s.platformTurn = false) :
    t.dev = s.dev.engineTurn s.cfg ∨ t.dev = s.dev ∨
    ∃ a rest w, s.schedule = .access a :: rest ∧ arrive s.cfg a = .word w ∧
      exec (decode w) { s with schedule := rest } = .next t := by
  obtain ⟨-, -, ⟨-, e, -⟩ | ⟨a, rest, -, -, e, -⟩ | ⟨a, rest, w, hs, ha, he, -⟩ | ⟨hs, -⟩ | ⟨rest, hs, -⟩⟩ :=
    step_dev_cases hstep
  · exact .inl e
  · exact .inr (.inl e)
  · exact .inr (.inr ⟨a, rest, w, hs, ha, he⟩)
  · rcases hs with ⟨rest, hs⟩ | ⟨a, rest, hs⟩ <;> simp [State.platformTurn, hs] at hplat
  · simp [State.platformTurn, hs] at hplat

/-! ### The table's lock (R83) -/

@[simp] theorem Dev.engineTurn_ct (p : Params) (d : Dev) : (d.engineTurn p).ct = d.ct := by
  rcases d.engineTurn_cases p with e | ⟨-, ⟨hit, -, -, e⟩ | ⟨-, -, -, e⟩ | ⟨-, -, -, e⟩ | ⟨-, -, -, e⟩⟩ <;> rw [e] <;>
    rfl

@[simp] theorem Dev.pushByte_ct (p : Params) (d : Dev) (b : Byte) : (d.pushByte p b).ct = d.ct := by
  rcases d.pushByte_cases p b with ⟨-, e⟩ | ⟨-, -, -, e⟩ | ⟨-, -, -, e⟩ | ⟨-, e⟩ | ⟨-, e⟩ <;> rw [e]
  case inl => simp only [Dev.takeHeader, apply_ite Dev.ct, ite_self]
  case inr.inr.inl => simp only [Dev.refusePayload, apply_ite Dev.ct, Dev.frameError_ct, ite_self]
  case inr.inr.inr.inl => simp only [Dev.dropByte, apply_ite Dev.ct, Dev.frameError_ct, ite_self]
  case inr.inl => rfl

/-- In a frame a CTRL write without ABORT finds the table locked. -/
theorem Dev.control_ct_of_active {d : Dev} (ha : d.active = true) {v : Word} (hv : v.getLsbD 2 = false) :
    (d.control v).ct = d.ct := by
  have hclear : (d.beforeStart v).ct = d.ct := by
    rw [Dev.beforeStart, ctrlAbort, hv, Dev.command_false]
    exact Dev.command_induction (P := fun e => e.ct = d.ct) rfl (by rw [Dev.clearTable_of_active ha]) _
  have hstart : (d.beforeEnd v).ct = d.ct :=
    Dev.command_induction (P := fun e => e.ct = d.ct) hclear ((Dev.start_sameTable _).ct.trans hclear) _
  exact Dev.command_induction (P := fun e => e.ct = d.ct) hstart ((Dev.endStream_sameTable _).ct.trans hstart) _

theorem exec_ct_of_active {i : Instr} {s t : State} (ha : s.dev.active = true) (he : exec i s = .next t)
    (hctrl : ∀ v, i = .wrCtrl v → v.getLsbD 2 = false) : t.dev.ct = s.dev.ct := by
  rcases exec_dev_cases he with e | ⟨-, e⟩ | ⟨v, hi, e⟩ | ⟨v, -, e⟩ | ⟨v, -, e⟩ | ⟨v, -, e⟩ | ⟨v, -, e⟩ | ⟨v, -, e⟩ |
    ⟨v, -, e⟩ | ⟨v, -, e⟩ <;> rw [e]
  case inr.inr.inl => exact Dev.control_ct_of_active ha (hctrl v hi)
  case inr.inr.inr.inr.inr.inr.inr.inr.inl => rw [Dev.commitEntry_of_refused (.inl ha)]
  case inr.inr.inr.inr.inr.inr.inr.inr.inr => exact Dev.pushByte_ct _ _ _
  all_goals rfl

/-- Settles O52: the engine and a byte never touch the table, and in a frame no instruction but ABORT does. -/
theorem tableIsLockedDuringAFrame : Obligations.TableIsLockedDuringAFrame := by
  intro s t hs hstep hplat habort
  rcases step_dev_cases_of_host hstep hplat with e | e | ⟨a, rest, w, hsched, ha, he⟩
  · rw [e, Dev.engineTurn_ct]
  · rw [e]
  · exact exec_ct_of_active (s := { s with schedule := rest }) (s.dev.active_iff.mpr hs) he
      fun v => habort a rest w v hsched ha

/-! ### The sticky interrupt status (R287) -/

theorem Dev.engineTurn_keeps_irqStat {p : Params} {d : Dev} {k : Nat} (hk : d.irqStat.getLsbD k = true) :
    (d.engineTurn p).irqStat.getLsbD k = true := by
  rcases d.engineTurn_cases p with e | ⟨-, ⟨hit, -, -, e⟩ | ⟨-, -, -, e⟩ | ⟨-, -, -, e⟩ | ⟨-, -, -, e⟩⟩ <;> rw [e]
  case inr.inr.inr.inl => rw [Dev.finishStep_irqStat, BitVec.getLsbD_or, hk, Bool.true_or]
  case inr.inr.inr.inr => exact Dev.frameError_keeps_irqStat hk _ _
  all_goals exact hk

/-- Settles O53: an instruction keeps the bit by `exec_keeps_irqStat`, or is a W1C of 0 to it. -/
theorem interruptStatusIsSticky : Obligations.InterruptStatusIsSticky := by
  intro s t k hstep hk hplat hclear
  rcases step_dev_cases_of_host hstep hplat with e | e | ⟨a, rest, w, hsched, ha, he⟩
  · exact e ▸ Dev.engineTurn_keeps_irqStat hk
  · exact e ▸ hk
  · by_cases hw : ∃ v, decode w = .wrIrqStat v
    · obtain ⟨v, hv⟩ := hw
      have hzero := hclear a rest w v hsched ha hv
      have hk2 : k < 2 := BitVec.lt_of_getLsbD hk
      rw [hv] at he
      cases he
      simp only [State.okWrite_dev, writeOneClear_getLsbD _ v hk2, hzero, hk, Bool.false_eq_true, if_false]
    · exact exec_keeps_irqStat (s := { s with schedule := rest }) he (not_exists.mp hw) hk

/-! ### The counters (R80) -/

/-- The counters of the frame do not fall from `d` to `e`. -/
structure Dev.CountersLe (d e : Dev) : Prop where
  pos : d.pos ≤ e.pos
  symCount : d.symCount ≤ e.symCount
  bytesRx : d.bytesRx ≤ e.bytesRx

theorem Dev.CountersLe.refl (d : Dev) : d.CountersLe d := ⟨le_rfl, le_rfl, le_rfl⟩

theorem Dev.frameError_countersLe (d : Dev) (code : ErrCode) (pos : Word) : d.CountersLe (d.frameError code pos) :=
  ⟨le_rfl, le_rfl, le_rfl⟩

theorem Dev.engineTurn_countersLe (p : Params) (d : Dev) : d.CountersLe (d.engineTurn p) := by
  rcases d.engineTurn_cases p with e | ⟨-, ⟨hit, -, -, e⟩ | ⟨-, -, -, e⟩ | ⟨-, -, -, e⟩ | ⟨-, -, -, e⟩⟩ <;> rw [e]
  case inr.inl => exact ⟨Nat.le_add_right _ _, Nat.le_succ _, le_rfl⟩
  all_goals exact ⟨le_rfl, le_rfl, le_rfl⟩

theorem Dev.Inv.pushByte_countersLe {p : Params} {d : Dev} (h : d.Inv p) (b : Byte) :
    d.CountersLe (d.pushByte p b) := by
  rcases d.pushByte_cases p b with ⟨hs, e⟩ | ⟨-, -, -, e⟩ | ⟨-, -, -, e⟩ | ⟨-, e⟩ | ⟨-, e⟩ <;> rw [e]
  case inl =>
    obtain ⟨hbytes, -, -⟩ := h.counters_of_header hs
    rw [Dev.takeHeader]
    split <;> exact ⟨le_rfl, le_rfl, hbytes ▸ Nat.zero_le 1⟩
  case inr.inl => exact ⟨le_rfl, le_rfl, Nat.le_succ _⟩
  case inr.inr.inl =>
    rw [Dev.refusePayload]
    split <;> exact d.frameError_countersLe _ _
  case inr.inr.inr.inl =>
    rw [Dev.dropByte]
    split
    · exact d.frameError_countersLe _ _
    · exact ⟨le_rfl, le_rfl, Nat.le_succ _⟩
  case inr.inr.inr.inr => exact ⟨le_rfl, le_rfl, le_rfl⟩

theorem Dev.commitEntry_countersLe (p : Params) (d : Dev) (v : Word) : d.CountersLe (d.commitEntry p v) := by
  rw [Dev.commitEntry]
  split
  · exact ⟨le_rfl, le_rfl, le_rfl⟩
  · split <;> exact ⟨le_rfl, le_rfl, le_rfl⟩

theorem exec_countersLe {i : Instr} {s t : State} (h : s.dev.Inv s.cfg) (he : exec i s = .next t)
    (hctrl : ∀ v, i ≠ .wrCtrl v) : s.dev.CountersLe t.dev := by
  rcases exec_dev_cases he with e | ⟨-, e⟩ | ⟨v, hi, e⟩ | ⟨v, -, e⟩ | ⟨v, -, e⟩ | ⟨v, -, e⟩ | ⟨v, -, e⟩ | ⟨v, -, e⟩ |
    ⟨v, -, e⟩ | ⟨v, -, e⟩ <;> rw [e]
  case inr.inr.inl => exact absurd hi (hctrl v)
  case inr.inr.inr.inr.inr.inr.inr.inr.inl => exact s.dev.commitEntry_countersLe s.cfg v
  case inr.inr.inr.inr.inr.inr.inr.inr.inr => exact h.pushByte_countersLe (dataByte v)
  all_goals exact ⟨le_rfl, le_rfl, le_rfl⟩

/-- Settles O54: DECODE and a byte count up, and nothing but CTRL and the platform counts down. -/
theorem countersOnlyGrowInAFrame : Obligations.CountersOnlyGrowInAFrame := by
  intro s t h hstep hplat hctrl
  have hle : s.dev.CountersLe t.dev := by
    rcases step_dev_cases_of_host hstep hplat with e | e | ⟨a, rest, w, hsched, ha, he⟩
    · exact e ▸ s.dev.engineTurn_countersLe s.cfg
    · exact e ▸ .refl s.dev
    · exact exec_countersLe (s := { s with schedule := rest }) h.dev he fun v => hctrl a rest w v hsched ha
  exact ⟨hle.pos, hle.symCount, hle.bytesRx⟩

end Sys2Proof.Machine

/-!
PROOFS. Progress (R315, R322): a closed input means that the engine can step; a host that pops ends a frame after END
and reopens the input before it; and a host within the input budget meets no InputOverrun.
-/

namespace Sys2Proof.Machine

/-! ### A closed input -/

section Closed

variable {p : Params} {d : Dev} (h : d.Inv p) (hs : d.fstate = .run)

include h hs

/-- In RUN the padding alone is not decodable of the buffer. -/
theorem Dev.Inv.decodable_eq : d.decodable = d.buf.length - d.pad.toNat := by
  obtain ⟨hlen, -⟩ := h.frame.run_buf hs
  rw [Dev.decodable_of_run hs, hlen]
  omega

/-- When the buffer has no room for a byte, more bits are decodable than the longest code has: BUF_BITS holds them
beside the greatest padding (R5, R322). -/
theorem Dev.Inv.lMaxT_lt_decodable (hp : p.Legal) (he : d.ended = false) (hlimit : d.bytesRx < p.maxFrameBytes)
    (hr : d.inReady p = false) : d.lMaxT < d.decodable := by
  have hlmax : d.lMaxT ≤ p.lMax := tableLMax_le_lMax h.range.table.2
  obtain ⟨-, -, -, -, ⟨hbits, -⟩, -⟩ := hp
  have hpad : d.pad.toNat < 2 ^ 8 := d.pad.isLt
  have hfull := (Dev.ended_or_full_of_not_ready hlimit hs hr).resolve_left (ne_true_of_eq_false he)
  rw [h.decodable_eq hs]
  omega

/-- The argument of R322: then DECODE or UNMATCH is enabled, if OUT is not full. -/
theorem Dev.Inv.enabledStep_of_closed (hp : p.Legal) (he : d.ended = false) (hlimit : d.bytesRx < p.maxFrameBytes)
    (hr : d.inReady p = false) (hout : d.out.length ≠ p.outDepth) :
    (∃ hit, matchTable d.ct d.window = some hit ∧ d.enabledStep p = some (.decode hit)) ∨
      d.enabledStep p = some .unmatch := by
  cases hm : matchTable d.ct d.window with
  | some hit => exact .inl ⟨hit, rfl, Dev.enabledStep_decode hs hm hout⟩
  | none => exact .inr (Dev.enabledStep_unmatch hs hm he (h.lMaxT_lt_decodable hs hp he hlimit hr).le)

end Closed

/-- Settles O56: `Dev.Inv.enabledStep_of_closed`. -/
theorem closedInputMeansTheEngineCanStep : Obligations.ClosedInputMeansTheEngineCanStep := by
  intro s h hs he hlimit hr hout
  exact (h.dev.enabledStep_of_closed hs h.legal he hlimit hr hout).imp_left fun ⟨hit, _, hstep⟩ => ⟨hit, hstep⟩

/-! ### Runs of the machine -/

/-- `n` steps of the machine, at the model's own types. -/
def runSteps (n : Nat) (s : State) : Host.Outcome State Fault Refusal := Host.Core.run core n s

@[simp] theorem runSteps_zero (s : State) : runSteps 0 s = .next s := rfl

theorem coreRun_succ {M : Host.Core} {s t : M.State} (hstep : M.step s = .next t) (n : Nat) :
    M.run (n + 1) s = M.run n t := by
  rw [Host.Core.run, hstep]

theorem runSteps_succ {s t : State} (hstep : step s = .next t) (n : Nat) : runSteps (n + 1) s = runSteps n t :=
  coreRun_succ (M := core) hstep n

theorem decode_opPop : decode (mkTWord .read 0x4C#7 0#32) = .rdDataOut := by decide

/-- The host's `pop` runs the DATA_OUT read. -/
theorem step_opPop {s : State} {rest : List Event} (hs : s.schedule = opPop s.cfg :: rest) :
    ∃ t, step s = .next t ∧ t.cfg = s.cfg ∧ t.schedule = rest ∧ t.dev = s.dev.popOut := by
  obtain ⟨t, ht, hcfg, hsched, -⟩ := exec_next .rdDataOut { s with schedule := rest }
  have hdev := dev_of_exec_rdDataOut ht
  refine ⟨t, ?_, hcfg, hsched, hdev⟩
  have haccess := stepAccess_accessOf { s with schedule := rest } (mkTWord .read 0x4C#7 0#32)
  rw [decode_opPop, ht] at haccess
  exact (step_of_cons hs).trans haccess

/-- A pop and a turn of the engine. -/
theorem run_popTurn {s : State} {rest : List Event} (hs : s.schedule = opPop s.cfg :: .engine :: rest) :
    ∃ t, t.cfg = s.cfg ∧ t.schedule = rest ∧ t.dev = s.dev.popOut.engineTurn s.cfg ∧
      ∀ n, runSteps (n + 2) s = runSteps n t := by
  obtain ⟨u, hu, hcfg, hsched, hdev⟩ := step_opPop hs
  have hturn := step_of_cons hsched
  exact ⟨({ u with schedule := rest } : State).engineTurn, hcfg, rfl, by rw [← hdev, ← hcfg]; rfl,
    fun n => (runSteps_succ hu (n + 1)).trans (runSteps_succ hturn n)⟩

theorem Dev.engineTurn_of_step {p : Params} {d : Dev} {e : EngineStep} (h : d.enabledStep p = some e) :
    d.engineTurn p = d.takeStep e := by
  rw [Dev.engineTurn, h]

/-- After a pop OUT has room. -/
theorem Dev.Inv.popOut_not_full {p : Params} {d : Dev} (h : d.Inv p) (hp : p.Legal) :
    d.popOut.out.length ≠ p.outDepth := by
  obtain ⟨-, -, -, ⟨hdepth, -⟩, -⟩ := hp
  obtain ⟨hout, -⟩ := h.frame.capacity
  rw [Dev.popOut_out, List.length_tail]
  omega

/-- DECODE leaves less to decode. -/
theorem Dev.decodeStep_decodable_lt {d : Dev} (hs : d.fstate = .run) {hit : Hit}
    (hm : matchTable d.ct d.window = some hit) : (d.decodeStep hit).decodable < d.decodable := by
  obtain ⟨hone, hlen⟩ := matchTable_len hm
  have hdec := hlen.trans d.window_length_le
  have hbits : (d.decodeStep hit).rBits = d.rBits := rfl
  rw [Dev.decodable_of_run hs] at hdec ⊢
  rw [Dev.decodable_of_run (d := d.decodeStep hit) hs, hbits, Dev.decodeStep_pos, Dev.decodeStep_pad]
  omega

/-! ### The frame ends once its stream has ended (R322) -/

/-- The frame is over, or in RUN after END with fewer than `n` bits to decode. -/
def Dev.EndsWithin (n : Nat) (d : Dev) : Prop :=
  (d.fstate = .run ∧ d.ended = true ∧ d.decodable < n) ∨ d.fstate = .done ∨ d.fstate = .error

/-- A pop and a turn of the engine decode a code or end the frame. -/
theorem Dev.Inv.popTurn_endsWithin {p : Params} {d : Dev} (h : d.Inv p) (hp : p.Legal) {n : Nat}
    (hend : d.EndsWithin (n + 1)) : (d.popOut.engineTurn p).EndsWithin n := by
  rcases hend with ⟨hs, he, hdec⟩ | hover
  case inr =>
    have hne : d.popOut.fstate ≠ .run := by rcases hover with hs | hs <;> simp [hs]
    rw [Dev.engineTurn_of_ne_run _ _ hne]
    exact .inr hover
  case inl =>
    have hs' : d.popOut.fstate = .run := hs
    cases hm : matchTable d.popOut.ct d.popOut.window with
    | some hit =>
      have hlt := Dev.decodeStep_decodable_lt hs' hm
      rw [Dev.engineTurn_of_step (Dev.enabledStep_decode hs' hm (h.popOut_not_full hp))]
      exact .inl ⟨hs, he, hlt.trans_le (Nat.le_of_lt_succ hdec)⟩
    | none =>
      rcases Nat.eq_zero_or_pos d.popOut.decodable with h0 | hone
      · rw [Dev.engineTurn_of_step (Dev.enabledStep_finish hs' hm he h0)]
        exact .inr (.inl rfl)
      · rw [Dev.engineTurn_of_step (Dev.enabledStep_failEnd hs' hm he hone)]
        exact .inr (.inr rfl)

theorem run_ends {n : Nat} {s : State} (h : s.Inv) (hend : s.dev.EndsWithin n)
    (hsched : s.schedule = poppingHost s.cfg n) :
    ∃ t, runSteps (2 * n) s = .next t ∧ (t.dev.fstate = .done ∨ t.dev.fstate = .error) := by
  induction n generalizing s with
  | zero => exact ⟨s, runSteps_zero s, hend.resolve_left fun ⟨_, _, hdec⟩ => absurd hdec (Nat.not_lt_zero _)⟩
  | succ n ih =>
    obtain ⟨t, hcfg, hrest, hdev, hrun⟩ := run_popTurn hsched
    have hinv : t.Inv := by
      rw [State.inv_iff, hcfg, hdev]
      exact ⟨h.legal, h.dev.popOut.engineTurn⟩
    obtain ⟨u, hu, hover⟩ := ih hinv (hdev ▸ h.dev.popTurn_endsWithin h.legal hend) (hcfg ▸ hrest)
    exact ⟨u, (hrun (2 * n)).trans hu, hover⟩

/-- Settles O57: each turn decodes at least one of the `D` bits, and the last one ends the frame. -/
theorem aFrameEndsOnceItsStreamEnds : Obligations.AFrameEndsOnceItsStreamEnds :=
  fun _ h hs he hsched => run_ends h (.inl ⟨hs, he, Nat.lt_succ_self _⟩) hsched

/-! ### The input opens again (R322) -/

/-- In RUN before END and below the frame limit, with at most `n` bits to decode. -/
structure Dev.OpensWithin (p : Params) (n : Nat) (d : Dev) : Prop where
  run : d.fstate = .run
  before : d.ended = false
  limit : d.bytesRx < p.maxFrameBytes
  decodable : d.decodable ≤ n

/-- A pop and a turn of the engine with the input closed decode a code or enter DRAIN, where the input is open. -/
theorem Dev.Inv.popTurn_opensWithin {p : Params} {d : Dev} (h : d.Inv p) (hp : p.Legal) {n : Nat}
    (hopen : d.OpensWithin p (n + 1)) (hr : d.inReady p = false) :
    (d.popOut.engineTurn p).OpensWithin p n ∨
      ((d.popOut.engineTurn p).inReady p = true ∧ (d.popOut.engineTurn p).fstate = .drain) := by
  obtain ⟨hs, he, hlimit, hdec⟩ := hopen
  have hs' : d.popOut.fstate = .run := hs
  rcases h.popOut.enabledStep_of_closed hs' hp he hlimit hr (h.popOut_not_full hp) with ⟨hit, hm, hstep⟩ | hstep <;>
    rw [Dev.engineTurn_of_step hstep]
  · have hlt := Dev.decodeStep_decodable_lt hs' hm
    exact .inl ⟨hs, he, hlimit, Nat.le_of_lt_succ (hlt.trans_le hdec)⟩
  · exact .inr ⟨(Dev.inReady_iff p _).mpr (.inr (.inr ⟨rfl, hlimit⟩)), rfl⟩

theorem run_opens {n : Nat} {s : State} (h : s.Inv) (hopen : s.dev.OpensWithin s.cfg n)
    (hsched : s.schedule = poppingHost s.cfg n) :
    ∃ k t, k ≤ n ∧ runSteps (2 * k) s = .next t ∧ t.dev.inReady t.cfg = true ∧
      (t.dev.fstate = .run ∨ t.dev.fstate = .drain) := by
  induction n generalizing s with
  | zero =>
    obtain ⟨hs, he, hlimit, hdec⟩ := hopen
    refine ⟨0, s, le_rfl, runSteps_zero s, ?_, .inl hs⟩
    by_contra hr
    have hlt := h.dev.lMaxT_lt_decodable hs h.legal he hlimit (eq_false_of_ne_true hr)
    exact absurd (hlt.trans_le hdec) (Nat.not_lt_zero _)
  | succ n ih =>
    cases hr : s.dev.inReady s.cfg with
    | true => exact ⟨0, s, Nat.zero_le _, runSteps_zero s, hr, .inl hopen.run⟩
    | false =>
      obtain ⟨t, hcfg, hrest, hdev, hrun⟩ := run_popTurn hsched
      have hinv : t.Inv := by
        rw [State.inv_iff, hcfg, hdev]
        exact ⟨h.legal, h.dev.popOut.engineTurn⟩
      have hturn := h.dev.popTurn_opensWithin h.legal hopen hr
      rw [← hdev, ← hcfg] at hturn
      rcases hturn with hopen' | ⟨hready, hdrain⟩
      · obtain ⟨k, u, hk, hu, hopened⟩ := ih hinv hopen' (hcfg ▸ hrest)
        exact ⟨k + 1, u, Nat.succ_le_succ hk, (hrun (2 * k)).trans hu, hopened⟩
      · exact ⟨1, t, Nat.succ_le_succ (Nat.zero_le n), (hrun 0).trans (runSteps_zero t), hready, .inr hdrain⟩

/-- Settles O58: while the input is closed each turn decodes at least one of the `D` bits or enters DRAIN, and with
none left it cannot be closed. -/
theorem theInputOpensAgain : Obligations.TheInputOpensAgain :=
  fun _ h hs he hlimit hsched => run_opens h ⟨hs, he, hlimit, le_rfl⟩ hsched

/-! ### The input budget (R315) -/

/-- The bytes that a schedule of bytes, pops and turns of the engine still writes. -/
def bytesLeft (p : Params) (events : List Event) : Nat :=
  (events.filter fun e => decide (e ≠ .engine ∧ e ≠ opPop p)).length

theorem opPush_ne_opPop (p : Params) (b : Byte) : opPush p b ≠ opPop p := by
  simp [opPush, opPop, wrOp, rdOp, accessOf]

@[simp] theorem bytesLeft_engine (p : Params) (rest : List Event) :
    bytesLeft p (.engine :: rest) = bytesLeft p rest := by
  simp [bytesLeft]

@[simp] theorem bytesLeft_opPop (p : Params) (rest : List Event) :
    bytesLeft p (opPop p :: rest) = bytesLeft p rest := by
  simp [bytesLeft]

@[simp] theorem bytesLeft_opPush (p : Params) (b : Byte) (rest : List Event) :
    bytesLeft p (opPush p b :: rest) = bytesLeft p rest + 1 := by
  have hcond : opPush p b ≠ .engine ∧ opPush p b ≠ opPop p := ⟨nofun, opPush_ne_opPop p b⟩
  simp [bytesLeft, hcond]

/-- Room for `k` bytes: in RUN before END in the buffer, and within the frame limit; in DRAIN bytes need no room in
the buffer. -/
structure Dev.HasRoom (p : Params) (k : Nat) (d : Dev) : Prop where
  buffer : (d.fstate = .run ∧ d.ended = false ∧ 8 * k ≤ p.bufBits - d.buf.length) ∨ d.fstate = .drain
  limit : d.bytesRx + k ≤ p.maxFrameBytes

section Budget

variable {p : Params} {k : Nat} {d : Dev}

theorem Dev.HasRoom.engineTurn (h : d.HasRoom p k) : (d.engineTurn p).HasRoom p k := by
  obtain ⟨⟨hs, hended, hbuf⟩ | hdrain, hlimit⟩ := h
  case inr =>
    rw [Dev.engineTurn_of_ne_run p d (by simp [hdrain])]
    exact ⟨.inr hdrain, hlimit⟩
  case inl =>
    rcases d.engineTurn_cases p with e | ⟨-, ⟨hit, -, -, e⟩ | ⟨-, -, -, e⟩ | ⟨-, he, -, -⟩ | ⟨-, he, -, -⟩⟩
    case inl =>
      rw [e]
      exact ⟨.inl ⟨hs, hended, hbuf⟩, hlimit⟩
    case inr.inl =>
      rw [e]
      refine ⟨.inl ⟨hs, hended, ?_⟩, hlimit⟩
      rw [Dev.decodeStep_buf, List.length_drop]
      omega
    case inr.inr.inl =>
      rw [e]
      exact ⟨.inr rfl, hlimit⟩
    all_goals simp [hended] at he

theorem Dev.HasRoom.popOut (h : d.HasRoom p k) : d.popOut.HasRoom p k := ⟨h.buffer, h.limit⟩

theorem Dev.HasRoom.pushByte (h : d.HasRoom p (k + 1)) (b : Byte) : (d.pushByte p b).HasRoom p k := by
  obtain ⟨⟨hs, hended, hbuf⟩ | hdrain, hlimit⟩ := h
  · have hr : d.inReady p = true := (Dev.inReady_iff_of_run hs hended).mpr (by omega)
    rw [Dev.pushByte_of_ready b hs hended hr]
    refine ⟨.inl ⟨hs, hended, ?_⟩, ?_⟩
    · rw [Dev.takePayload_buf, List.length_append, bitsMSB8_length]
      omega
    · rw [Dev.takePayload_bytesRx]
      omega
  · rw [Dev.pushByte_of_dropped b hdrain (by omega)]
    exact ⟨.inr hdrain, by dsimp only; omega⟩

end Budget

theorem decode_opPush (b : Byte) : decode (mkTWord .write 0x48#7 (b.setWidth 32)) = .wrDataIn (b.setWidth 32) := by
  rw [decode_mkTWord]
  exact select_fields (i := .wrDataIn (b.setWidth 32)) rfl

/-- The host's `push` runs the DATA_IN write of the byte. -/
theorem step_opPush {s : State} {b : Byte} {rest : List Event} (hs : s.schedule = opPush s.cfg b :: rest) :
    ∃ t, step s = .next t ∧ t.cfg = s.cfg ∧ t.schedule = rest ∧ t.dev = s.dev.pushByte s.cfg b := by
  have haccess := stepAccess_accessOf { s with schedule := rest } (mkTWord .write 0x48#7 (b.setWidth 32))
  have hbyte : dataByte (b.setWidth 32) = b := by
    rw [dataByte, BitVec.extractLsb'_setWidth_of_le (by decide)]
    simp
  rw [decode_opPush, exec_wrDataIn, hbyte] at haccess
  exact ⟨_, (step_of_cons hs).trans haccess, rfl, rfl, rfl⟩

/-- A host that stays within the budget, with what is left of it. -/
structure State.WithinBudget (s : State) : Prop where
  inv : s.Inv
  events : ∀ e ∈ s.schedule, e = .engine ∨ e = opPop s.cfg ∨ ∃ b, e = opPush s.cfg b
  room : s.dev.HasRoom s.cfg (bytesLeft s.cfg s.schedule)

theorem State.WithinBudget.no_powerDown {s : State} (h : s.WithinBudget) (rest : List Event) :
    s.schedule ≠ .powerDown :: rest := fun hs => by
  rcases h.events .powerDown (by simp [hs]) with he | he | ⟨b, he⟩
  · cases he
  · simp [opPop, rdOp] at he
  · simp [opPush, wrOp] at he

/-- What a step of such a host needs, to stay within the budget. -/
theorem State.WithinBudget.of_step {s t : State} (h : s.WithinBudget) (hstep : Machine.step s = .next t)
    (hroom : t.dev.HasRoom s.cfg (bytesLeft s.cfg s.schedule.tail)) : t.WithinBudget := by
  obtain ⟨hcfg, hsched, -⟩ := step_dev_cases hstep
  refine ⟨step_inv h.inv hstep h.no_powerDown, ?_, by rwa [hcfg, hsched]⟩
  rw [hcfg, hsched]
  exact fun e he => h.events e (List.mem_of_mem_tail he)

/-- A step of such a host stays within the budget. -/
theorem State.WithinBudget.step {s : State} (h : s.WithinBudget) :
    ∃ t, Machine.step s = .next t ∧ t.WithinBudget := by
  have ⟨_, hevents, hroom⟩ := h
  cases hs : s.schedule with
  | nil => exact ⟨_, step_of_nil hs, h.of_step (step_of_nil hs) (by rw [hs] at hroom ⊢; exact hroom.engineTurn)⟩
  | cons e rest =>
    rw [hs] at hroom
    have hbudget {t : State} (ht : Machine.step s = .next t) (hroom : t.dev.HasRoom s.cfg (bytesLeft s.cfg rest)) :
        t.WithinBudget := h.of_step ht (by rwa [hs, List.tail_cons])
    rcases hevents e (by simp [hs]) with rfl | rfl | ⟨b, rfl⟩
    · rw [bytesLeft_engine] at hroom
      exact ⟨_, step_of_cons hs, hbudget (step_of_cons hs) hroom.engineTurn⟩
    · obtain ⟨t, ht, -, -, hdev⟩ := step_opPop hs
      rw [bytesLeft_opPop] at hroom
      exact ⟨t, ht, hbudget ht (hdev ▸ hroom.popOut)⟩
    · obtain ⟨t, ht, -, -, hdev⟩ := step_opPush hs
      rw [bytesLeft_opPush] at hroom
      exact ⟨t, ht, hbudget ht (hdev ▸ hroom.pushByte b)⟩

theorem run_withinBudget {s : State} (h : s.WithinBudget) (n : Nat) :
    ∃ t, runSteps n s = .next t ∧ t.WithinBudget := by
  induction n generalizing s with
  | zero => exact ⟨s, runSteps_zero s, h⟩
  | succ n ih =>
    obtain ⟨t, ht, hbudget⟩ := h.step
    obtain ⟨u, hu, hbudget'⟩ := ih hbudget
    exact ⟨u, (runSteps_succ ht n).trans hu, hbudget'⟩

/-- Settles O59: each byte finds room, so that the run stays in RUN or DRAIN, where no error stands. -/
theorem theInputBudgetIsSafe : Obligations.TheInputBudgetIsSafe := by
  intro s n h hs he hevents hbuf hlimit
  have hroom : s.dev.HasRoom s.cfg (bytesLeft s.cfg s.schedule) := by
    refine ⟨.inl ⟨hs, he, ?_⟩, hlimit⟩
    have hbytes : bytesLeft s.cfg s.schedule ≤ (s.cfg.bufBits - s.dev.buf.length) / 8 := hbuf
    omega
  obtain ⟨t, ht, hinv, -, hroom', -⟩ := run_withinBudget ⟨h, hevents, hroom⟩ n
  have hne : t.dev.fstate ≠ .error := by
    rcases hroom' with ⟨hrun, -⟩ | hdrain
    · simp [hrun]
    · simp [hdrain]
  exact ⟨t, ht, hne, by simp [hinv.dev.errCode_of_ne_error hne]⟩

end Sys2Proof.Machine

/-!
PROOFS. Power-down without reset (R295, item I9): any block of R32's types is what some values of the free numbers
give, and nothing but a reset ends the record of a power-down.
-/

namespace Sys2Proof.Machine

/-! ### Free numbers that give a block -/

/-- A number from which `lostFState` makes the frame state. -/
def FState.freeNumber : FState → Nat
  | .idle => 0
  | .header => 1
  | .run => 2
  | .drain => 3
  | .done => 4
  | .error => 5

/-- A number from which `lostErrCode` makes the code, if the block raises it. -/
def ErrCode.freeNumber : ErrCode → Nat
  | .truncatedStream => 1
  | .unknownCode => 2
  | .emptyCodeTable => 3
  | .inputOverrun => 4
  | .frameTooLong => 5
  | .noError | .emptyAlphabet | .degenerateTree | .malformedFrequencyLine => 0

/-- A number from which `lostPend` makes the pending error, if it is one of R32's. -/
def ErrCode.freePendNumber : ErrCode → Nat
  | .unknownCode => 1
  | .emptyCodeTable => 2
  | _ => 0

/-- Numbers from which `Dev.lost` makes the block `d`, under the numbers of its variables there. -/
def Dev.freeNumbers (d : Dev) : Nat → Nat → Nat
  | 0, _ => d.fstate.freeNumber
  | 1, i => (entryAt d.ct i).valid.toNat
  | 2, i => (entryAt d.ct i).len.toNat
  | 3, i => (entryAt d.ct i).code.toNat
  | 4, i => (entryAt d.ct i).sym.toNat
  | 5, _ => d.ctIndex.toNat
  | 6, _ => d.ctStage.toNat
  | 7, _ => d.pad.toNat
  | 8, _ => d.padValid.toNat
  | 9, _ => d.bytesRx
  | 10, _ => d.pos
  | 11, _ => d.buf.length
  | 12, i => (d.buf.getD i false).toNat
  | 13, _ => d.ended.toNat
  | 14, _ => d.pend.freePendNumber
  | 15, _ => d.pendPos.toNat
  | 16, _ => d.out.length
  | 17, i => (d.out.getD i 0#16).toNat
  | 18, _ => d.symCount
  | 19, _ => d.errCode.freeNumber
  | 20, _ => d.errPos.toNat
  | 21, _ => d.ctWerr.toNat
  | 22, _ => d.cmdErr.toNat
  | 23, _ => d.irqEn.toNat
  | 24, _ => d.irqStat.toNat
  | _, _ => 0

@[simp] theorem lostFState_freeNumber (fs : FState) : lostFState fs.freeNumber = fs := by cases fs <;> rfl

@[simp] theorem lostBit_toNat (b : Bool) : lostBit b.toNat = b := by cases b <;> rfl

theorem lostErrCode_freeNumber {c : ErrCode} (h : c.OfBlock) : lostErrCode c.freeNumber = c := by
  obtain ⟨h1, h2, h3⟩ := h
  cases c
  case emptyAlphabet => exact absurd rfl h1
  case degenerateTree => exact absurd rfl h2
  case malformedFrequencyLine => exact absurd rfl h3
  all_goals rfl

theorem lostPend_freePendNumber {c : ErrCode} (h : c = .noError ∨ c = .unknownCode ∨ c = .emptyCodeTable) :
    lostPend c.freePendNumber = c := by
  rcases h with rfl | rfl | rfl <;> rfl

/-- A field that keeps to its width is not cut. -/
theorem lowBits_of_lt {w n : Nat} {v : BitVec w} (h : v.toNat < 2 ^ n) : lowBits n v = v :=
  BitVec.eq_of_toNat_eq (by rw [lowBits_toNat, Nat.mod_eq_of_lt h])

theorem map_range_getD {α : Type} (xs : List α) (default : α) :
    (List.range xs.length).map (fun i => xs.getD i default) = xs := by
  refine List.ext_getElem (by simp) fun i hi _ => ?_
  rw [List.getElem_map, List.getElem_range, List.getD_eq_getElem]

theorem lostEntry_freeNumbers {p : Params} {d : Dev} (h : d.Typed p) {i : Nat} (hi : i < d.ct.length) :
    lostEntry p d.freeNumbers i = entryAt d.ct i := by
  obtain ⟨-, hentries⟩ := h.table
  obtain ⟨hcode, hsym⟩ := hentries (entryAt d.ct i) (by rw [entryAt_of_lt hi]; exact List.getElem_mem hi)
  simp only [lostEntry, Dev.freeNumbers, lostBit_toNat, lowBits_of_lt hcode, lowBits_of_lt hsym,
    BitVec.ofNat_toNat, BitVec.setWidth_eq]

section Typed

variable {p : Params} {d : Dev} (h : d.Typed p)

include h

theorem Dev.Typed.ct_eq : (List.range p.ctEntries).map (lostEntry p d.freeNumbers) = d.ct := by
  obtain ⟨hlen, -⟩ := h.table
  calc (List.range p.ctEntries).map (lostEntry p d.freeNumbers)
    _ = (List.range d.ct.length).map (entryAt d.ct) := by
      rw [← hlen]
      exact List.map_congr_left fun i hi => lostEntry_freeNumbers h (List.mem_range.mp hi)
    _ = d.ct := map_range_getD d.ct Entry.invalid

theorem Dev.Typed.buf_eq :
    (List.range (d.buf.length % (p.bufBits + 1))).map (fun i => d.buf.getD i false) = d.buf := by
  rw [Nat.mod_eq_of_lt (Nat.lt_succ_of_le h.buffer)]
  exact map_range_getD d.buf false

theorem Dev.Typed.out_eq :
    (List.range (d.out.length % (p.outDepth + 1))).map (fun i => lowBits p.symW (d.out.getD i 0#16)) = d.out := by
  obtain ⟨hlen, hsyms⟩ := h.fifo
  rw [Nat.mod_eq_of_lt (Nat.lt_succ_of_le hlen)]
  calc _
    _ = (List.range d.out.length).map (fun i => d.out.getD i 0#16) := by
      refine List.map_congr_left fun i hi => lowBits_of_lt (hsyms _ ?_)
      rw [List.getD_eq_getElem _ _ (List.mem_range.mp hi)]
      exact List.getElem_mem _
    _ = d.out := map_range_getD d.out 0#16

/-- The free numbers of a block of R32's types give the block. -/
theorem Dev.Typed.lost_freeNumbers : Dev.lost p d.freeNumbers = d := by
  obtain ⟨hindex, hstage⟩ := h.selection
  obtain ⟨hbytes, hpos, hsym⟩ := h.naturals
  obtain ⟨herr, hpend⟩ := h.codes
  simp only [Dev.lost, h.ct_eq, Dev.freeNumbers, h.buf_eq, h.out_eq, lostFState_freeNumber, lostBit_toNat,
    lowBits_of_lt hindex, lowBits_of_lt hstage, Nat.mod_eq_of_lt (Nat.lt_succ_of_le hbytes),
    Nat.mod_eq_of_lt hpos, Nat.mod_eq_of_lt hsym, lostErrCode_freeNumber herr, lostPend_freePendNumber hpend,
    BitVec.ofNat_toNat, BitVec.setWidth_eq]

end Typed

/-! ### The record of a power-down, and the states outside a frame -/

/-- What is lost stays on record but for a reset (item I9). -/
theorem step_keeps_lost {s t : State} (hl : s.lost = true) (hstep : step s = .next t)
    (hreset : ∀ rest, s.schedule ≠ .reset :: rest ∧ ∀ a, s.schedule ≠ .accessInReset a :: rest) : t.lost = true := by
  by_contra ht
  obtain ⟨rest, ⟨hs, -⟩ | ⟨a, hs, -⟩⟩ := step_ends_lost hstep hl (eq_false_of_ne_true ht)
  · exact (hreset rest).1 hs
  · exact (hreset rest).2 a hs

theorem State.engineTurn_of_not_active {s : State}
    (hs : s.dev.fstate = .idle ∨ s.dev.fstate = .done ∨ s.dev.fstate = .error) : s.engineTurn = s :=
  State.engineTurn_of_no_step (Dev.enabledStep_of_ne_run s.cfg (by rcases hs with hs | hs | hs <;> simp [hs]))

/-- Settles O60: the block after a power-down is `Dev.lost` of the free numbers, which give any block of R32's types;
its record ends with a reset; and outside a frame no step of the engine is enabled. -/
theorem powerDownNeedsAReset : Obligations.PowerDownNeedsAReset := by
  refine ⟨fun s => ⟨rfl, rfl, rfl, rfl, rfl, rfl, Dev.lost_typed s.cfg _⟩, fun s s' hcfg hfree => ?_,
    fun p d h => ⟨d.freeNumbers, h.lost_freeNumbers⟩, fun s t => step_keeps_lost,
    fun s => ⟨rfl, rfl, fun hp => ⟨hp, (Dev.reset_inv s.cfg).frame, (Dev.reset_inv s.cfg).range⟩⟩,
    fun s hs => ⟨fun hnil => ?_, fun rest hcons => ?_⟩⟩
  · rw [State.powerDown_dev, State.powerDown_dev, hcfg, hfree]
  · rw [step_of_nil hnil, State.engineTurn_of_not_active hs]
  · exact (step_of_cons hcons).trans
      (congrArg Host.Outcome.next (State.engineTurn_of_not_active (s := { s with schedule := rest }) hs))

end Sys2Proof.Machine
